-- ==== Sys2Proof/Word.lean ====
section
/-! DEFINITION. The byte, and its plain reading as a number: the only bits of this model are the
bytes seen on the trunk and on the reader lines (R189-R191). -/

namespace Sys2Proof

/-- One byte of a trunk frame or of a reader line frame. -/
abbrev Byte := BitVec 8

end Sys2Proof
end

