-- ==== Sys2Proof/Config.lean ====
section
/-! DEFINITION. What is fixed for the part: the capacities its rules give, and the one choice the
manual leaves open that the machine goes on after (a free value). -/

namespace Sys2Proof.Config

/-- Capacity of the Card Table (R4). -/
def maxCards : Nat := 8192

/-- Capacity of the Account Table (R66). -/
def maxAccounts : Nat := 4096

/-- Capacity of the Cabin Table (R44). -/
def maxCabins : Nat := 1024

/-- Holds of one account (R73). -/
def maxAccountHolds : Nat := 8

/-- Holds of the part (R73). -/
def maxHolds : Nat := 256

/-- Slots shared by journal records and outstanding holds (R93). -/
def journalSlots : Nat := 2048

/-- Last number given above which the journal counts as full (R93). -/
def journalNumberLimit : Nat := 4294965247

/-- Capacity of the Referral List (R142). -/
def maxReferrals : Nat := 64

/-- Gate stations of the part (R23). -/
def maxGates : Nat := 16

/-- Frames in one pass-through queue (R40). -/
def maxQueue : Nat := 4

/-- Bytes of pass-through data in one frame (R40, R41). -/
def maxThrough : Nat := 64

/-- Capacity of the Event Queue (R196). -/
def maxEvents : Nat := 512

/-- Records of an access trail (R56). -/
def maxTrail : Nat := 8

/-- Entries of a Data frame (R161). -/
def maxDataEntries : Nat := 16

/-- Card numbers on a page of Ashore Read and Unaccounted Read (R120, R139). -/
def pageSize : Nat := 32

/-- The highest card number (R4). -/
def maxCardNumber : Nat := 16777215

/-- The highest account number (R66). -/
def maxAccountNumber : Nat := 999999

/-- The highest cabin number (R44). -/
def maxCabinNumber : Nat := 9999

/-- The highest cap and spent value (R66). -/
def maxCap : Nat := 99999999

/-- The highest amount of one sale (R71). -/
def maxAmount : Nat := 999999

/-- The highest value of a four-byte number: stamps, record numbers, session totals. -/
def maxWord32 : Nat := 4294967295

/-- The highest value of a two-byte count: untracked, unlisted, echo counts, tags. -/
def maxWord16 : Nat := 65535

/-- Milliseconds of one second of the timebase. -/
def second : Nat := 1000

/-- The longest gap between two bytes of one trunk frame, in milliseconds (R176). -/
def frameGap : Nat := 50

/-- FREE VALUE, log 7. R192: the day rollover and the all-aboard comparison taken in one step
"are not ordered against each other". Applied to the counter `State.free`; true puts the rollover first. -/
opaque rolloverFirst : Nat → Bool

end Sys2Proof.Config
end

