-- ==== Sys2Proof/Syntax.lean ====
section
/-! DEFINITION. The commands of the part: one constructor of `Instr` for each row of
spec/opcode_table.json, and the records their operands are made of. Values that arrive in a frame are
raw codes (R189, R190): the block that tests a field refuses the codes outside its list. -/

namespace Sys2Proof

/-- A date and time to the second, as carried (R190: year, month, day, hour, minute, second). -/
structure DateTime where
  year : Nat
  month : Nat
  day : Nat
  hour : Nat
  minute : Nat
  second : Nat
  deriving DecidableEq, Repr

/-- One of the eight reader lines, 0 to 7. -/
abbrev LineNo := Fin 8

/-- A station is named by its line and its address. -/
structure Station where
  line : LineNo
  addr : Nat
  deriving DecidableEq, Repr

/-- One value for each of the four lock sensors (R45): a sensor word (true is asserted), an expected
pattern, or a set of sensors. -/
structure Sensors where
  leafClosed : Bool
  boltThrown : Bool
  privacyKnob : Bool
  tamperCover : Bool
  deriving DecidableEq, Repr

/-- The kind part of a Presentation as received, by its part code (R191). -/
inductive KindPart where
  | none
  | gesture (code : Nat)
  | sale (amount goods reference : Nat)
  | direction (code : Nat)
  deriving DecidableEq, Repr

/-- The request record of a Request Reply as received (R191). -/
inductive Request where
  | presentation (vessel card issue : Nat) (part : KindPart)
  | complete (holdTag amount : Nat)
  | cancel (holdTag : Nat)
  | passageReport (outcome : Nat)
  deriving DecidableEq, Repr

/-- A card entry as offered by a Data frame (R163) or an Answer (R147), as received. -/
structure CardOffer where
  number : Nat
  issue : Nat
  cls : Nat
  status : Nat
  account : Option Nat
  cabins : List Nat
  zones : List Nat
  window : Option (DateTime × DateTime)
  musterStation : Nat
  search : Nat
  presence : Option Nat
  deriving DecidableEq, Repr

/-- An account entry as offered by a Data frame (R68), as received. -/
structure AccountOffer where
  number : Nat
  state : Nat
  voyageCap : Nat
  dailyCap : Nat
  voyageSpent : Option Nat
  dailySpent : Option Nat
  deriving DecidableEq, Repr

/-- A cabin entry as offered by a Data frame (R46), as received. -/
structure CabinOffer where
  number : Nat
  zone : Nat
  pattern : Nat
  mask : Nat
  tamper : Nat
  lock : Option (Nat × Nat)
  openMask : Option Nat
  deriving DecidableEq, Repr

/-- The thirteen fields of the operating profile as carried by Profile Set, in the order of R194. -/
structure ProfileOffer where
  openWindow : Nat
  entryGrace : Nat
  holdLifetime : Nat
  terminalHoldLimit : Nat
  confirmTimeout : Nat
  referralTimeout : Nat
  repeatWindow : Nat
  missLimit : Nat
  loadGapTimeout : Nat
  dayBoundaryHour : Nat
  countMode : Nat
  openFallback : Nat
  passageFallback : Nat
  deriving DecidableEq, Repr

/-- The verdict of an Answer frame (R147). -/
inductive AnswerVerdict where
  | grant
  | refuse
  deriving DecidableEq, Repr

/-- The levels of the four alarm inputs as a restart finds them (R141), input 1 first; true is high. -/
abbrev Levels := Vector Bool 4

/-- The commands of the part, in the order of spec/opcode_table.json. `tag` is the tag of the frame. -/
inductive Instr where
  /-- STATUS_READ, kind 1 (R183). -/
  | statusRead (tag : Nat)
  /-- CLOCK_SET, kind 2 (R193). -/
  | clockSet (tag : Nat) (time : DateTime)
  /-- PROFILE_SET, kind 3 (R194). -/
  | profileSet (tag : Nat) (fields : ProfileOffer)
  /-- PROFILE_READ, kind 4 (R194). -/
  | profileRead (tag : Nat)
  /-- LINE_SETTINGS, kind 5 (R35). -/
  | lineSettings (tag line speed replyTimeout settle : Nat)
  /-- LINE_TEST_START, kind 6 (R37). -/
  | lineTestStart (tag line : Nat)
  /-- LINE_TEST_END, kind 7 (R39). -/
  | lineTestEnd (tag line : Nat)
  /-- STATION_ENROLL, kind 8 (R24). -/
  | stationEnroll (tag line addr kind : Nat) (kindData : Option Nat)
  /-- STATION_REMOVE, kind 9 (R25). -/
  | stationRemove (tag line addr : Nat)
  /-- VESSEL_CODES_SET, kind 10 (R184); 0 is an empty slot. -/
  | vesselCodesSet (tag slot1 slot2 slot3 slot4 : Nat)
  /-- LOAD_OPEN, kind 11 (R160). -/
  | loadOpen (tag table mode : Nat)
  /-- LOAD_CLOSE, kind 12 (R167). -/
  | loadClose (tag : Nat)
  /-- ENTRY_READ, kind 13 (R170). -/
  | entryRead (tag table key : Nat)
  /-- ACCOUNT_WRITE, kind 14 (R70). -/
  | accountWrite (tag account : Nat) (state voyageCap dailyCap : Option Nat)
  /-- CABIN_WRITE, kind 15 (R61); the watch part is a pattern and a mask. -/
  | cabinWrite (tag cabin : Nat) (lockOut : Option Nat) (watch : Option (Nat × Nat)) (tamper : Option Nat)
  /-- PRESENCE_SET, kind 16 (R116). -/
  | presenceSet (tag card presence stamp : Nat)
  /-- PORT_CALL_OPEN, kind 17 (R102). -/
  | portCallOpen (tag : Nat) (allAboard : DateTime)
  /-- PORT_CALL_CLOSE, kind 18 (R104). -/
  | portCallClose (tag : Nat)
  /-- JOURNAL_READ, kind 19 (R95). -/
  | journalRead (tag start count : Nat)
  /-- JOURNAL_RELEASE, kind 20 (R97). -/
  | journalRelease (tag number : Nat)
  /-- COUNTER_READ, kind 21 (R119). -/
  | counterRead (tag : Nat)
  /-- ASHORE_READ, kind 22 (R120). -/
  | ashoreRead (tag start : Nat)
  /-- MUSTER_START, kind 23 (R125). -/
  | musterStart (tag option : Nat)
  /-- MUSTER_END, kind 24 (R128). -/
  | musterEnd (tag : Nat)
  /-- MUSTER_ROLL_READ, kind 25 (R138). -/
  | musterRollRead (tag : Nat)
  /-- UNACCOUNTED_READ, kind 26 (R139). -/
  | unaccountedRead (tag start : Nat)
  /-- ALARM_CONFIG, kind 27 (R131). -/
  | alarmConfig (tag input mode : Nat)
  /-- ALARM_STATUS, kind 28 (R132). -/
  | alarmStatus (tag : Nat)
  /-- EVENT_READ, kind 29 (R198). -/
  | eventRead (tag count : Nat)
  /-- EVENT_KINDS, kind 30 (R196): one value for each kind, in code order. -/
  | eventKinds (tag : Nat) (values : List Nat)
  /-- PROTECTION_SET, kind 31 (R172). -/
  | protectionSet (tag load purge rangeRewrite : Nat) (range : Option (Nat × Nat))
  /-- PROTECTION_GET, kind 32 (R171). -/
  | protectionGet (tag : Nat)
  /-- PROTECTION_RELEASE, kind 33 (R173). -/
  | protectionRelease (tag : Nat)
  /-- RESTART, kind 34 (R186). -/
  | restart (tag option : Nat)
  /-- DATA_FRAME (R161): the body as received, read against the open session. -/
  | dataFrame (tag : Nat) (body : List Byte)
  /-- ANSWER_FRAME (R147). -/
  | answerFrame (tag : Nat) (verdict : AnswerVerdict) (entry : Option CardOffer)
  /-- THROUGH_DOWN (R155). -/
  | throughDown (tag line addr : Nat) (data : List Byte)
  /-- FRAME_CHECK_FAILED (R176): class, kind and tag as read from the damaged frame. -/
  | frameCheckFailed (cls kind tag : Nat)
  /-- UNKNOWN_KIND (R178). -/
  | unknownKind (cls kind tag : Nat)
  /-- MALFORMED (R178). -/
  | malformed (cls kind tag : Nat)
  /-- OUTBOUND_CLASS_DISCARDED (R178). -/
  | outboundClassDiscarded (cls kind tag : Nat)
  /-- FRAME_GAP_TIMEOUT (R176). -/
  | frameGapTimeout
  /-- CARRIER_LOST (R153). -/
  | carrierLost
  /-- CARRIER_REGAINED (R153). -/
  | carrierRegained
  /-- RESTART_BEGIN (R186): the levels of the alarm inputs found by the restart (R141). -/
  | restartBegin (levels : Levels)
  /-- MAIN_POWER_LOST (R187). -/
  | mainPowerLost
  /-- MAIN_POWER_APPLIED (R187): whether the retained-memory check passes, and the levels found. -/
  | mainPowerApplied (checkPasses : Bool) (levels : Levels)
  /-- RETENTION_SUPPLY_LOW (R187). -/
  | retentionSupplyLow
  /-- POLL (R26). -/
  | poll (line : LineNo)
  /-- REPLY_TIMEOUT (R27). -/
  | replyTimeout (line : LineNo)
  /-- BAD_REPLY (R27). -/
  | badReply (line : LineNo)
  /-- IDLE (R27), with the address and sensor byte of the Reply. -/
  | idle (station : Station) (sensors : Sensors)
  /-- REQUEST (R31), with the Reply's request number and request record. -/
  | request (station : Station) (sensors : Sensors) (number : Nat) (content : Request)
  /-- ACKNOWLEDGE (R32), with the Reply's request number. -/
  | acknowledge (station : Station) (sensors : Sensors) (number : Nat)
  /-- THROUGH_UP (R41), with the Reply's data. -/
  | throughUp (station : Station) (data : List Byte)
  /-- ECHO (R38), with the bytes echoed. -/
  | echo (station : Station) (data : List Byte)
  /-- SETTLE_INTERVAL_END (R35). -/
  | settleIntervalEnd (line : LineNo)
  /-- LINE_SETTINGS_WAIT_TIMEOUT (R36). -/
  | lineSettingsWaitTimeout (line : LineNo)
  /-- WINDOW_END (R52). -/
  | windowEnd (cabin : Nat)
  /-- OVERRIDE_END (R53). -/
  | overrideEnd (cabin : Nat)
  /-- HOLD_LAPSE (R80). -/
  | holdLapse (holdTag : Nat)
  /-- PASSAGE_CONFIRM_TIMEOUT (R111). -/
  | passageConfirmTimeout (gate : Station)
  /-- REFERRAL_TIMEOUT (R145). -/
  | referralTimeout (referralTag : Nat)
  /-- LOAD_GAP_EXPIRY (R168). -/
  | loadGapExpiry
  /-- DAY_BOUNDARY (R192). -/
  | dayBoundary
  /-- ALL_ABOARD_DUE (R103). -/
  | allAboardDue
  /-- ALARM_INPUT (R129): the input, 1 to 4 as index plus one, and its new level (true is high). -/
  | alarmInput (input : Fin 4) (level : Bool)
  /-- LENGTH_NOT_READABLE (R176). -/
  | lengthNotReadable
  deriving DecidableEq, Repr

end Sys2Proof
end

