-- ==== Sys2Proof/Machine/State.lean ====
section
/-! DEFINITION. The state of the part: the fields of its ten blocks (00_scope.md, Block overview), the
frames and records they keep, and the state a cold start leaves. Plain data only. -/

namespace Sys2Proof.Machine

/-! ## Names of values -/

/-- Holder classes, in the order of R4. -/
inductive HolderClass where
  | guest | junior | crew | steward | officer
  deriving DecidableEq, Repr

/-- Card status (R5). -/
inductive CardStatus where
  | active | blocked
  deriving DecidableEq, Repr

/-- Presence of a card (R105). -/
inductive Presence where
  | aboard | ashore | unknown
  deriving DecidableEq, Repr

/-- Muster mark of a card (R124). -/
inductive MusterMark where
  | unmarked
  | mustered (station : Nat)
  deriving DecidableEq, Repr

/-- Gesture at a Lock (R1). -/
inductive Gesture where
  | openDoor | lockout
  deriving DecidableEq, Repr

/-- Goods class of a sale (R1). -/
inductive Goods where
  | ordinary | restricted
  deriving DecidableEq, Repr

/-- Direction of a crossing (R1). -/
inductive Direction where
  | outbound | inbound
  deriving DecidableEq, Repr

/-- Outcome of a Passage Report (R110). -/
inductive PassageOutcome where
  | passed | notPassed
  deriving DecidableEq, Repr

/-- Verdict reasons, in the order of R34 (codes 1 to 29, R189). -/
inductive Reason where
  | granted | repeated | foreign | unknown | superseded | blocked | expired | notListed | privacy
  | lockedOut | noCabin | noAccount | accountHeld | cap | dailyCap | age | presence | barsClosed
  | terminalLimit | holdLimit | journalFull | direction | notInPort | lastCall | muster | busy | late
  | parameter | outOfService
  deriving DecidableEq, Repr

/-- Execution results and per-entry results (R189, codes 0 to 10). -/
inductive ExecResult where
  | ok | busy | parameter | protect | inUse | full | notFound | stale | late | order | notOpen
  deriving DecidableEq, Repr

/-- Reception results (R189, codes 0 to 3). -/
inductive Reception where
  | accepted | check | malformed | unknownKind
  deriving DecidableEq, Repr

/-- Causes of a referral (R142). -/
inductive ReferralCause where
  | lookupMiss | higherIssue | windowClockUnset
  deriving DecidableEq, Repr

/-- Causes of a fallback (R146). -/
inductive FallbackCause where
  | trunkDown | listFull | timeout | trunkLoss
  deriving DecidableEq, Repr

/-- Station kinds with their kind data (R23). -/
inductive StationKind where
  | lock
  | bar (outlet : Nat)
  | gate
  | musterPoint (station : Nat)
  | through
  deriving DecidableEq, Repr

/-- Station states (R23). -/
inductive StationState where
  | present | absent | outOfService
  deriving DecidableEq, Repr

/-- Line states (R22). -/
inductive LineState where
  | stopped | running | settling | test
  deriving DecidableEq, Repr

/-- Line speeds (02, section 2.6). -/
inductive Speed where
  | kbit9600 | kbit19200 | kbit38400 | kbit115200
  deriving DecidableEq, Repr

/-- Account states (R67). -/
inductive AccountState where
  | opened | suspended | closed
  deriving DecidableEq, Repr

/-- Kinds of journal record (R91). -/
inductive JournalKind where
  | completed | cancelled | lapsed
  deriving DecidableEq, Repr

/-- Who set a lock-out (R44). -/
inductive Holder where
  | officer (card : Nat)
  | command
  | automatic
  deriving DecidableEq, Repr

/-- Lock state of a cabin with the lock-out holder, which is present only while Locked Out (R44). -/
inductive LockState where
  | secured
  | openWindow
  | lockedOut (holder : Holder)
  deriving DecidableEq, Repr

/-- Tamper action of a cabin (R60). -/
inductive TamperAction where
  | none | lockOut
  deriving DecidableEq, Repr

/-- Entry watch (R58). -/
inductive Watch where
  | armed | tripped
  deriving DecidableEq, Repr

/-- Port state with the all-aboard time, which is present outside At Sea (R101). -/
inductive PortState where
  | atSea
  | inPort (allAboard : DateTime)
  | lastCall (allAboard : DateTime)
  deriving DecidableEq, Repr

/-- Muster state (R123). -/
inductive MusterState where
  | off | drill | alert
  deriving DecidableEq, Repr

/-- Modes of an alarm input (R129). -/
inductive AlarmMode where
  | disabled | risingEdge | fallingEdge | levelHigh | levelLow
  deriving DecidableEq, Repr

/-- The three loadable tables (R159). -/
inductive TableName where
  | card | account | cabin
  deriving DecidableEq, Repr

/-- Modes of a load session (R159). -/
inductive LoadMode where
  | merge | purge
  deriving DecidableEq, Repr

/-- Kinds of restart (R187). -/
inductive RestartKind where
  | cold | warm
  deriving DecidableEq, Repr

/-- Reported causes of a restart (R187). -/
inductive RestartCause where
  | retentionLost | checkFailed | powerReturned | command
  deriving DecidableEq, Repr

/-- Count mode (R194). -/
inductive CountMode where
  | strict | lenient
  deriving DecidableEq, Repr

/-- Fallback policy (R194). -/
inductive Policy where
  | refuse | grant
  deriving DecidableEq, Repr

/-- Event kinds, in the order of the codes 1 to 28 (R196). -/
inductive EventKind where
  | entryTripped | entryRestored | lockOutSet | lockOutLifted | stationAbsent | stationPresent
  | foreignCard | supersededCard | blockedCard | presenceAnomaly | holdLapsed | passageAbandoned
  | latePassage | allAboardDue | foundAboard | wrongMusterStation | musterStarted | musterEscalated
  | musterEnded | alarmInput | trunkUp | trunkDown | referralFallback | lateAnswer | loadAbandoned
  | dayRollover | restart | overflow
  deriving DecidableEq, Repr

/-! ## Cards -/

/-- The fields of a card entry that the Card Check Unit owns (R4, R163). -/
structure CardData where
  number : Nat
  issue : Nat
  cls : HolderClass
  status : CardStatus
  account : Option Nat
  cabins : List Nat
  zones : List Nat
  window : Option (DateTime × DateTime)
  musterStation : Nat
  search : Bool
  deriving DecidableEq, Repr

/-- A card entry (R4): its loaded fields, and those owned by the Passage and Muster Units. -/
structure CardEntry where
  data : CardData
  presence : Presence
  stamp : Nat
  mark : MusterMark
  deriving DecidableEq, Repr

/-- The kind part of a presentation that has passed the form test, naming its job (R1, R2). The
Muster job carries the muster station of its Muster Point. -/
inductive JobPart where
  | openDoor
  | lockout
  | authorize (amount : Nat) (goods : Goods) (reference : Nat)
  | passage (direction : Direction)
  | muster (station : Nat)
  deriving DecidableEq, Repr

/-- A presentation in form: station, card part and kind part (R1). -/
structure Presentation where
  station : Station
  vessel : Nat
  card : Nat
  issue : Nat
  part : JobPart
  deriving DecidableEq, Repr

/-! ## Stations and lines -/

/-- A verdict: a reason, and the hold tag of a granted Authorize (R34). -/
structure Verdict where
  reason : Reason
  holdTag : Option Nat
  deriving DecidableEq, Repr

/-- State of an open request, with the verdict that is absent while Deciding (R31). -/
inductive RequestState where
  | deciding
  | ready (verdict : Verdict)
  | offered (verdict : Verdict)
  deriving DecidableEq, Repr

/-- An open request (R31). -/
structure OpenRequest where
  number : Nat
  request : Request
  state : RequestState
  deriving DecidableEq, Repr

/-- A turned-away notice: a reason and the refused request number, where there is one (R33). -/
structure Notice where
  reason : Reason
  number : Option Nat
  deriving DecidableEq, Repr

/-- A repeat record that is not empty: a card number and the timebase time of its verdict (R15). -/
structure RepeatRecord where
  card : Nat
  time : Nat
  deriving DecidableEq, Repr

/-- A station record (R23) at its address. -/
structure StationRec where
  addr : Nat
  kind : StationKind
  state : StationState
  misses : Nat
  openRequest : Option OpenRequest
  notice : Option Notice
  repeatRecord : Option RepeatRecord
  queue : List (List Byte)
  echoGood : Nat
  echoFailed : Nat
  deriving DecidableEq, Repr

/-- The content of a Poll (R26). -/
inductive PollContent where
  | test
  | plain
  | notice (notice : Notice)
  | verdict (number : Nat) (verdict : Verdict)
  | pending (number : Nat)
  | through (data : List Byte)
  deriving DecidableEq, Repr

/-- The exchange on the wire (R26, R27): the polled address, what the Poll carries, the time left of the
reply timeout; `taken` is false once the polled station has been removed (R28), and `noticeLive` is
false once the notice carried has been replaced by a newer one (R33). -/
structure Exchange where
  addr : Nat
  content : PollContent
  left : Nat
  taken : Bool
  noticeLive : Bool
  deriving DecidableEq, Repr

/-- The settings of a line, times in milliseconds (02, section 2.6). -/
structure LineSettings where
  speed : Speed
  replyTimeout : Nat
  settle : Nat
  deriving DecidableEq, Repr

/-- A Line Settings command that waits for the line's open requests (R35, R36). -/
structure LineWait where
  settings : LineSettings
  left : Nat
  deriving DecidableEq, Repr

/-- One reader line and its Line Controller (R22, R23, R28, R35). `stations` is in ascending address;
`round` holds the addresses still to be polled in the round in progress. -/
structure Line where
  state : LineState
  settings : LineSettings
  stations : List StationRec
  exchange : Option Exchange
  roundCount : Nat
  round : Option (List Nat)
  wait : Option LineWait
  settleLeft : Nat
  deriving DecidableEq, Repr

/-! ## Cabins -/

/-- The fields of a cabin entry that a load brings (R44, R46). -/
structure CabinData where
  number : Nat
  zone : Nat
  lock : Option Station
  pattern : Sensors
  mask : Sensors
  openMask : Option Sensors
  tamper : TamperAction
  deriving DecidableEq, Repr

/-- One access record (R56); no time is "unset". -/
structure AccessRecord where
  card : Nat
  time : Option DateTime
  gesture : Gesture
  reason : Reason
  deriving DecidableEq, Repr

/-- A cabin entry (R44). Window end and override end are times on the timebase. -/
structure Cabin where
  data : CabinData
  lockState : LockState
  windowEnd : Option Nat
  overrideEnd : Option Nat
  lastWord : Option Sensors
  watch : Watch
  privacy : Bool
  trail : List AccessRecord
  deriving DecidableEq, Repr

/-! ## Accounts, holds and the journal -/

/-- An account entry (R66). Its hold list is the part of `ChargeUnit.holds` that names it (log 24). -/
structure Account where
  number : Nat
  state : AccountState
  voyageCap : Nat
  voyageSpent : Nat
  dailyCap : Nat
  dailySpent : Nat
  heldTotal : Nat
  deriving DecidableEq, Repr

/-- A hold record (R71); `left` is the remaining lifetime in milliseconds. -/
structure Hold where
  tag : Nat
  card : Nat
  account : Nat
  station : Station
  outlet : Nat
  reference : Nat
  amount : Nat
  goods : Goods
  left : Nat
  detached : Bool
  deriving DecidableEq, Repr

/-- A journal record (R90); no time is "unset". -/
structure JournalRecord where
  number : Nat
  kind : JournalKind
  account : Nat
  card : Nat
  station : Station
  outlet : Nat
  reference : Nat
  tag : Nat
  amount : Nat
  time : Option DateTime
  day : Nat
  deriving DecidableEq, Repr

/-- The Charge Unit: accounts in ascending number, outstanding holds in order of creation, the journal
oldest first (R66, R71, R72, R89, R92). -/
structure ChargeUnit where
  accounts : List Account
  holds : List Hold
  lastTag : Nat
  journal : List JournalRecord
  lastNumber : Nat
  deriving DecidableEq, Repr

/-! ## Passage -/

/-- The three presence counters of one class (R106). -/
structure PresenceCounts where
  aboard : Nat
  ashore : Nat
  unknown : Nat
  deriving DecidableEq, Repr

/-- The fifteen presence counters (R106). -/
structure Counters where
  guest : PresenceCounts
  junior : PresenceCounts
  crew : PresenceCounts
  steward : PresenceCounts
  officer : PresenceCounts
  deriving DecidableEq, Repr

/-- A pending passage (R108); no card is an untracked passage (R115). -/
structure Passage where
  gate : Station
  card : Option Nat
  direction : Direction
  left : Nat
  deriving DecidableEq, Repr

/-- The Passage Unit (R101, R106, R108); the pending passages are in the order of line and address. -/
structure PassageUnit where
  counters : Counters
  untrackedIn : Nat
  untrackedOut : Nat
  port : PortState
  passages : List Passage
  deriving DecidableEq, Repr

/-! ## Muster -/

/-- The counts of one muster station (R123). -/
structure RollRow where
  guestJunior : Nat
  crew : Nat
  unlisted : Nat
  deriving DecidableEq, Repr

/-- One alarm input (R129); `level` true is high. -/
structure AlarmInput where
  mode : AlarmMode
  level : Bool
  seen : Bool
  deriving DecidableEq, Repr

/-- The Muster Unit (R123, R129). A time is absent, or "unset", or a date and time. -/
structure MusterUnit where
  state : MusterState
  startTime : Option (Option DateTime)
  alertTime : Option (Option DateTime)
  roll : Vector RollRow 32
  inputs : Vector AlarmInput 4
  deriving DecidableEq, Repr

/-! ## Referrals -/

/-- A referral (R143); `left` is the remaining time in milliseconds. -/
structure Referral where
  tag : Nat
  presentation : Presentation
  cause : ReferralCause
  number : Nat
  left : Nat
  deriving DecidableEq, Repr

/-- The Referral Unit (R143); the list is oldest first. -/
structure ReferralUnit where
  list : List Referral
  lastTag : Nat
  deriving DecidableEq, Repr

/-! ## Events -/

/-- Details of event records (R63, R86, R121, R140, R158, R196). -/
inductive Detail where
  | gesture | command | automatic
  | lockOutApplied
  | missCount (n : Nat)
  | holdTag (n : Nat)
  | dayNumber (n : Nat)
  | abandonedTimeout | abandonedAbsent | abandonedMuster
  | outcome (o : PassageOutcome)
  | ashoreCounts (guest junior : Nat)
  | option (state : MusterState)
  | input (number : Nat)
  | unaccounted (n : Nat)
  | musterStation (n : Nat)
  | cause (c : FallbackCause)
  | referralTag (n : Nat)
  | applied (n : Nat)
  | passages (n : Nat)
  | discarded (n : Nat)
  deriving DecidableEq, Repr

/-- An event record (R196); no time is "unset". -/
structure EventRecord where
  kind : EventKind
  time : Option DateTime := none
  station : Option Station := none
  card : Option Nat := none
  cabin : Option Nat := none
  account : Option Nat := none
  detail : Option Detail := none
  deriving DecidableEq, Repr

/-- The Event Queue (R196): records oldest first, an enable for each kind in code order. -/
structure EventQueue where
  records : List EventRecord
  enables : Vector Bool 28
  deriving DecidableEq, Repr

/-! ## The Command Engine -/

/-- One entry of a Data frame, by table and mode (R163-R166). -/
inductive DataEntry where
  | cardMerge (offer : CardOffer)
  | cardPurge (number : Nat)
  | accountMerge (offer : AccountOffer)
  | accountPurge (number : Nat)
  | cabinMerge (offer : CabinOffer)
  | cabinPurge (number : Nat)
  deriving DecidableEq, Repr

/-- A Data frame whose entries are being settled (R161, R162, R175; log 34): its tag, the mode of its session, the
entries still to be settled, and the results given so far, both in the order carried. -/
structure Loading where
  tag : Nat
  mode : LoadMode
  rest : List DataEntry
  results : List ExecResult
  deriving DecidableEq, Repr

/-- The Command Engine's own state: Idle, or Executing (R180), with the kind and tag of the Command in progress
or with the Data frame being settled. -/
inductive EngineState where
  | idle
  | executing (kind tag : Nat)
  | loading (frame : Loading)
  deriving DecidableEq, Repr

/-- An open load session (R159); `gap` is the remaining gap in milliseconds. -/
structure Session where
  table : TableName
  mode : LoadMode
  applied : Nat
  refused : Nat
  gap : Nat
  deriving DecidableEq, Repr

/-- The operating profile (R194), durations in seconds. -/
structure Profile where
  openWindow : Nat
  entryGrace : Nat
  holdLifetime : Nat
  terminalHoldLimit : Nat
  confirmTimeout : Nat
  referralTimeout : Nat
  repeatWindow : Nat
  missLimit : Nat
  loadGapTimeout : Nat
  dayBoundaryHour : Nat
  countMode : CountMode
  openFallback : Policy
  passageFallback : Policy
  deriving DecidableEq, Repr

/-- The protection record (R171); true is Permitted. -/
structure Protection where
  load : Bool
  purge : Bool
  rangeRewrite : Bool
  range : Option (Nat × Nat)
  deriving DecidableEq, Repr

/-- The last restart (R188). -/
structure LastRestart where
  kind : RestartKind
  cause : RestartCause
  deriving DecidableEq, Repr

/-- The voyage clock, the day number and the next boundary (R192). `millis` counts the milliseconds of
the clock's present second (log 6). -/
structure VoyageClock where
  time : Option DateTime
  millis : Nat
  day : Nat
  boundary : Option DateTime
  deriving DecidableEq, Repr

/-- The Command Engine (00_scope.md). -/
structure CommandEngine where
  state : EngineState
  restartOption : Option RestartKind
  session : Option Session
  profile : Profile
  protection : Protection
  voyage : VoyageClock
  vesselCodes : Vector (Option Nat) 4
  lastRestart : LastRestart
  deriving DecidableEq, Repr

/-! ## Frames that leave the part -/

/-- The items of Status Read (R183), the trunk state apart, which is always Up. -/
structure StatusItems where
  lastRestart : LastRestart
  clockSet : Bool
  vesselCodes : Vector (Option Nat) 4
  session : Option (TableName × LoadMode)
  lines : List LineState
  gates : Nat
  cards : Nat
  cabins : Nat
  accounts : Nat
  holds : Nat
  records : Nat
  lastNumber : Nat
  port : PortState
  passages : Nat
  muster : MusterState
  referrals : Nat
  events : Nat
  deriving DecidableEq, Repr

/-- Install results (R148). -/
inductive InstallResult where
  | installed | parameter | protect | inUse | full
  deriving DecidableEq, Repr

/-- The data of a Status after the execution result (R179), by the rule of the command. -/
inductive StatusData where
  | none
  | items (items : StatusItems)
  | profile (profile : Profile)
  | echoes (counts : List (Nat × Nat × Nat))
  | totals (table : TableName) (mode : LoadMode) (applied refused : Nat)
  | card (entry : CardEntry)
  | account (entry : Account) (holds : List Hold)
  | cabin (entry : Cabin) (windowLeft overrideLeft : Option Nat)
  | stamp (stamp : Nat)
  | journal (records : List JournalRecord) (oldest last : Nat)
  | released (count oldest : Nat)
  | counters (counters : Counters) (untrackedIn untrackedOut : Nat) (port : PortState) (passages : Nat)
  | page (numbers : List Nat) (next : Option Nat) (total : Nat)
  | roll (state : MusterState) (startTime alertTime : Option (Option DateTime)) (roll : Vector RollRow 32)
      (mustered unlisted unaccounted : Nat)
  | inputs (inputs : Vector AlarmInput 4)
  | events (records : List EventRecord) (held : Nat)
  | protection (protection : Protection) (cards : Nat)
  | entries (results : List ExecResult)
  | install (result : Option InstallResult)
  deriving DecidableEq, Repr

/-- A Status frame (R179): class, kind and tag of the frame answered, the two results, the data. -/
structure Status where
  cls : Nat
  kind : Nat
  tag : Nat
  reception : Reception
  result : Option ExecResult
  data : StatusData
  deriving DecidableEq, Repr

/-- A frame handed to the Trunk Port for transmission (R144, R156, R179). -/
inductive OutFrame where
  | status (status : Status)
  | referral (tag : Nat) (presentation : Presentation) (cause : ReferralCause)
  | throughUp (station : Station) (data : List Byte)
  deriving DecidableEq, Repr

/-- The Trunk Port (R153, R176): trunk state (`up`), carrier, the bytes received and not yet settled with
the time since the last of them, and the frames awaiting transmission in the order handed. -/
structure TrunkPort where
  up : Bool
  carrier : Bool
  received : List Byte
  silence : Nat
  outgoing : List OutFrame
  deriving DecidableEq, Repr

/-- Main power, and the retention supply's validity for the next application of power (R187). -/
structure Power where
  mainOn : Bool
  retentionValid : Bool
  deriving DecidableEq, Repr

/-! ## The state -/

/-- The state of the part, block by block, and the queue of commands that wait. -/
structure State where
  timebase : Nat
  power : Power
  trunk : TrunkPort
  engine : CommandEngine
  lines : Vector Line 8
  cards : List CardEntry
  cabins : List Cabin
  charge : ChargeUnit
  passage : PassageUnit
  muster : MusterUnit
  referral : ReferralUnit
  events : EventQueue
  free : Nat
  pending : List Instr
  deriving DecidableEq, Repr

/-- Reasons for which a step faults: none. The manual gives the part no fault that stops it; every
refusal it describes is a next state. Nobody raises one, and that is safe. -/
inductive Fault where
  deriving DecidableEq, Repr

/-- Reasons for which a command is refused by the model. -/
inductive Refusal where
  /-- Raised by exec's own arms for a row that has no meaning yet; safe. No arm raises it now. -/
  | notModelled (mnemonic : String)
  deriving DecidableEq, Repr

/-! ## After a cold start -/

/-- The default profile (R194). -/
def Profile.default : Profile :=
  { openWindow := 5, entryGrace := 30, holdLifetime := 600, terminalHoldLimit := 2, confirmTimeout := 15,
    referralTimeout := 3, repeatWindow := 4, missLimit := 3, loadGapTimeout := 10, dayBoundaryHour := 4,
    countMode := .strict, openFallback := .refuse, passageFallback := .refuse }

/-- The protection record after a cold start (R171). -/
def Protection.default : Protection :=
  { load := true, purge := true, rangeRewrite := true, range := none }

/-- The default line settings (R43). -/
def LineSettings.default : LineSettings :=
  { speed := .kbit38400, replyTimeout := 10, settle := 50 }

/-- A line after a cold start (R43). -/
def Line.cold : Line :=
  { state := .stopped, settings := LineSettings.default, stations := [], exchange := none, roundCount := 0,
    round := none, wait := none, settleLeft := 0 }

/-- The Command Engine after a cold start (R188, R192, R194). -/
def CommandEngine.cold (cause : RestartCause) : CommandEngine :=
  { state := .idle, restartOption := none, session := none, profile := Profile.default,
    protection := Protection.default, voyage := { time := none, millis := 0, day := 0, boundary := none },
    vesselCodes := Vector.replicate 4 none, lastRestart := { kind := .cold, cause := cause } }

/-- The Charge Unit after a cold start (R88, R100). -/
def ChargeUnit.cold : ChargeUnit :=
  { accounts := [], holds := [], lastTag := 0, journal := [], lastNumber := 0 }

/-- Presence counters of no card (R122). -/
def PresenceCounts.zero : PresenceCounts := { aboard := 0, ashore := 0, unknown := 0 }

/-- All presence counters at 0 (R122). -/
def Counters.zero : Counters :=
  { guest := PresenceCounts.zero, junior := PresenceCounts.zero, crew := PresenceCounts.zero,
    steward := PresenceCounts.zero, officer := PresenceCounts.zero }

/-- The Passage Unit after a cold start (R122). -/
def PassageUnit.cold : PassageUnit :=
  { counters := Counters.zero, untrackedIn := 0, untrackedOut := 0, port := .atSea, passages := [] }

/-- A muster station with nobody mustered (R126, R141). -/
def RollRow.zero : RollRow := { guestJunior := 0, crew := 0, unlisted := 0 }

/-- The Muster Unit after a cold start that finds the given levels (R141). -/
def MusterUnit.cold (levels : Levels) : MusterUnit :=
  { state := .off, startTime := none, alertTime := none, roll := Vector.replicate 32 RollRow.zero,
    inputs := Vector.ofFn fun i => { mode := .disabled, level := levels[i], seen := false } }

/-- The Event Queue after a cold start (R199). -/
def EventQueue.cold : EventQueue := { records := [], enables := Vector.replicate 28 true }

/-- The state a cold start of the given cause leaves when it finds the given levels, with main power on
and the timebase at 0 (R187, R188). -/
def State.cold (cause : RestartCause) (levels : Levels) : State :=
  { timebase := 0, power := { mainOn := true, retentionValid := true },
    trunk := { up := false, carrier := true, received := [], silence := 0, outgoing := [] },
    engine := CommandEngine.cold cause, lines := Vector.replicate 8 Line.cold, cards := [], cabins := [],
    charge := ChargeUnit.cold, passage := PassageUnit.cold, muster := MusterUnit.cold levels,
    referral := { list := [], lastTag := 0 }, events := EventQueue.cold, free := 0, pending := [] }

/-- Right after reset: a cold start. DESIGN CHOICE log 3 (its cause is Retention Lost), log 4 (carrier is
present), log 5 (all alarm levels low), log 28 (the free counter). -/
def State.reset : State := State.cold .retentionLost (Vector.replicate 4 false)

end Sys2Proof.Machine
end

