-- ==== Sys2Proof/Machine/Clock.lean ====
section
/-! DEFINITION. Dates and times of the voyage clock: validity, order, the next second and the next
boundary (R192, R193). -/

namespace Sys2Proof.Machine

/-- Whether a year has a 29 February. -/
def leapYear (year : Nat) : Bool :=
  (year % 4 == 0 && year % 100 != 0) || year % 400 == 0

/-- Days of a month. -/
def daysInMonth (year month : Nat) : Nat :=
  if month = 2 then (if leapYear year then 29 else 28)
  else if month = 4 ∨ month = 6 ∨ month = 9 ∨ month = 11 then 30
  else 31

/-- A valid date and time within the range of R192 (log 19). -/
def validTime (t : DateTime) : Bool :=
  decide (2000 ≤ t.year ∧ t.year ≤ 2099 ∧ 1 ≤ t.month ∧ t.month ≤ 12 ∧ 1 ≤ t.day ∧
    t.day ≤ daysInMonth t.year t.month ∧ t.hour ≤ 23 ∧ t.minute ≤ 59 ∧ t.second ≤ 59)

/-- A number that orders valid dates and times as they follow one another. -/
def timeKey (t : DateTime) : Nat :=
  ((((t.year * 13 + t.month) * 32 + t.day) * 24 + t.hour) * 60 + t.minute) * 60 + t.second

/-- `a` is not later than `b`. -/
def notLater (a b : DateTime) : Bool := decide (timeKey a ≤ timeKey b)

/-- The same time of the following day. -/
def nextDay (t : DateTime) : DateTime :=
  if t.day < daysInMonth t.year t.month then { t with day := t.day + 1 }
  else if t.month < 12 then { t with month := t.month + 1, day := 1 }
  else { t with year := t.year + 1, month := 1, day := 1 }

/-- The last value of the voyage clock, at which it stays (R192). -/
def lastTime : DateTime :=
  { year := 2099, month := 12, day := 31, hour := 23, minute := 59, second := 59 }

/-- The clock one second on; it stays at `lastTime` (R192). -/
def nextSecond (t : DateTime) : DateTime :=
  if t = lastTime then t
  else if t.second < 59 then { t with second := t.second + 1 }
  else if t.minute < 59 then { t with minute := t.minute + 1, second := 0 }
  else if t.hour < 23 then { t with hour := t.hour + 1, minute := 0, second := 0 }
  else nextDay { t with hour := 0, minute := 0, second := 0 }

/-- The first instant of the boundary hour that falls later than the clock (R192). -/
def boundaryAfter (hour : Nat) (clock : DateTime) : DateTime :=
  let today := { clock with hour := hour, minute := 0, second := 0 }
  if notLater today clock then nextDay today else today

/-- The voyage clock one millisecond on: a set clock advances one second for each second of the timebase
(R192, log 6). -/
def VoyageClock.advance (v : VoyageClock) : VoyageClock :=
  match v.time with
  | none => v
  | some t =>
    if v.millis + 1 < Config.second then { v with millis := v.millis + 1 }
    else { v with time := some (nextSecond t), millis := 0 }

/-- The clock has reached the next boundary (R192). -/
def VoyageClock.boundaryReached (v : VoyageClock) : Bool :=
  match v.time, v.boundary with
  | some t, some b => notLater b t
  | _, _ => false

/-- The next boundary moves to the same hour of the following day (R192). -/
def VoyageClock.moveBoundary (v : VoyageClock) : VoyageClock := { v with boundary := v.boundary.map nextDay }

end Sys2Proof.Machine
end

