-- ==== Sys2Proof/Machine/Operands.lean ====
section
/-! DEFINITION. Reading operands: the codes of R189 and R190 (a value from a list of names is numbered
from 1 in the order in which its rule lists the names), the form test of a presentation (R2), and the
well-formedness of offered entries (R8, R46, R68). A code outside its list gives none. -/

namespace Sys2Proof.Machine

/-! ## Codes to names -/

/-- Holder class (R4). -/
def readClass : Nat → Option HolderClass
  | 1 => some .guest | 2 => some .junior | 3 => some .crew | 4 => some .steward | 5 => some .officer
  | _ => none

/-- Card status (R4). -/
def readCardStatus : Nat → Option CardStatus
  | 1 => some .active | 2 => some .blocked | _ => none

/-- Yes is 1 and no is 2 (R190). -/
def readYesNo : Nat → Option Bool
  | 1 => some true | 2 => some false | _ => none

/-- Presence (R4). -/
def readPresence : Nat → Option Presence
  | 1 => some .aboard | 2 => some .ashore | 3 => some .unknown | _ => none

/-- Gesture (R189). -/
def readGesture : Nat → Option Gesture
  | 1 => some .openDoor | 2 => some .lockout | _ => none

/-- Goods class (R189). -/
def readGoods : Nat → Option Goods
  | 1 => some .ordinary | 2 => some .restricted | _ => none

/-- Direction (R189). -/
def readDirection : Nat → Option Direction
  | 1 => some .outbound | 2 => some .inbound | _ => none

/-- Passage Report outcome (R189). -/
def readOutcome : Nat → Option PassageOutcome
  | 1 => some .passed | 2 => some .notPassed | _ => none

/-- Speed of a line (02, section 2.6, in the order listed; log 20). -/
def readSpeed : Nat → Option Speed
  | 1 => some .kbit9600 | 2 => some .kbit19200 | 3 => some .kbit38400 | 4 => some .kbit115200 | _ => none

/-- Account state (R66). -/
def readAccountState : Nat → Option AccountState
  | 1 => some .opened | 2 => some .suspended | 3 => some .closed | _ => none

/-- Tamper action (R44). -/
def readTamper : Nat → Option TamperAction
  | 1 => some .none | 2 => some .lockOut | _ => none

/-- Lock-out part of Cabin Write: Set (true) or Lift (R61). -/
def readLockOutPart : Nat → Option Bool
  | 1 => some true | 2 => some false | _ => none

/-- Table of a load session (R159). -/
def readTable : Nat → Option TableName
  | 1 => some .card | 2 => some .account | 3 => some .cabin | _ => none

/-- Mode of a load session (R159). -/
def readMode : Nat → Option LoadMode
  | 1 => some .merge | 2 => some .purge | _ => none

/-- Option of Muster Start: Drill or Alert (R125). -/
def readMusterOption : Nat → Option MusterState
  | 1 => some .drill | 2 => some .alert | _ => none

/-- Mode of an alarm input (R129). -/
def readAlarmMode : Nat → Option AlarmMode
  | 1 => some .disabled | 2 => some .risingEdge | 3 => some .fallingEdge | 4 => some .levelHigh
  | 5 => some .levelLow | _ => none

/-- Option of Restart: Warm or Cold (R186). -/
def readRestartOption : Nat → Option RestartKind
  | 1 => some .warm | 2 => some .cold | _ => none

/-- A permission: Permitted (true) or Withdrawn (R171). -/
def readPermission : Nat → Option Bool
  | 1 => some true | 2 => some false | _ => none

/-- Count mode (R194). -/
def readCountMode : Nat → Option CountMode
  | 1 => some .strict | 2 => some .lenient | _ => none

/-- Fallback policy (R194). -/
def readPolicy : Nat → Option Policy
  | 1 => some .refuse | 2 => some .grant | _ => none

/-- A station kind with its kind data: an outlet 1-64 for a Bar, a muster station 1-32 for a Muster Point,
and none for the other kinds (R23, R24). -/
def readStationKind : Nat → Option Nat → Option StationKind
  | 1, none => some .lock
  | 2, some n => if 1 ≤ n ∧ n ≤ 64 then some (.bar n) else none
  | 3, none => some .gate
  | 4, some n => if 1 ≤ n ∧ n ≤ 32 then some (.musterPoint n) else none
  | 5, none => some .through
  | _, _ => none

/-- An optional part: absent, or present and read; none where the value present is outside its list. -/
def readPart {α β : Type} (read : α → Option β) : Option α → Option (Option β)
  | none => some none
  | some x => (read x).map some

/-- A line number in 0 to 7. -/
def readLine (n : Nat) : Option LineNo :=
  if h : n < 8 then some ⟨n, h⟩ else none

/-- A line in 0 to 7 and an address in 1 to 31. -/
def readStation (line addr : Nat) : Option Station :=
  match readLine line with
  | some l => if 1 ≤ addr ∧ addr ≤ 31 then some { line := l, addr := addr } else none
  | none => none

/-- A set of lock sensors in a byte whose four lowest bits name them (R190, R191); none when another bit
is set. -/
def readSensorSet (n : Nat) : Option Sensors :=
  if n < 16 then
    some { leafClosed := n % 2 == 1, boltThrown := n / 2 % 2 == 1, privacyKnob := n / 4 % 2 == 1,
           tamperCover := n / 8 % 2 == 1 }
  else none

/-- Four slot values of Vessel Codes Set; 0 is an empty slot (R184). -/
def readSlot (n : Nat) : Option Nat := if n = 0 then none else some n

/-! ## The form test of a presentation -/

/-- The kind part a presentation must have for its station's enrolled kind (R1, R2). -/
def readJobPart (kind : StationKind) (part : KindPart) : Option JobPart :=
  match kind, part with
  | .lock, .gesture g =>
    match readGesture g with
    | some .openDoor => some .openDoor
    | some .lockout => some .lockout
    | none => none
  | .bar _, .sale amount goods reference =>
    match readGoods goods with
    | some g => some (.authorize amount g reference)
    | none => none
  | .gate, .direction d =>
    match readDirection d with
    | some dir => some (.passage dir)
    | none => none
  | .musterPoint m, .none => some (.muster m)
  | _, _ => none

/-- The form test (R2): vessel code in 1-65535, card number in 1-16,777,215, kind part of the form and
values the enrolled kind takes. -/
def readPresentation (station : Station) (kind : StationKind) (vessel card issue : Nat) (part : KindPart) :
    Option Presentation :=
  match readJobPart kind part with
  | some job =>
    if 1 ≤ vessel ∧ vessel ≤ 65535 ∧ 1 ≤ card ∧ card ≤ Config.maxCardNumber then
      some { station := station, vessel := vessel, card := card, issue := issue, part := job }
    else none
  | none => none

/-! ## Offered entries -/

/-- No value stands twice in a list. -/
def distinct : List Nat → Bool
  | [] => true
  | x :: xs => !xs.contains x && distinct xs

/-- A number in a range, both ends included. -/
def inRange (low high n : Nat) : Bool := decide (low ≤ n ∧ n ≤ high)

/-- The loaded fields of an offered card entry when they are well formed (R8); the presence carried is
tested apart, at insertion (log 18). -/
def readCard (o : CardOffer) : Option CardData :=
  match readClass o.cls, readCardStatus o.status, readYesNo o.search with
  | some cls, some status, some search =>
    if inRange 1 Config.maxCardNumber o.number && inRange 0 255 o.issue
        && (match o.account with | none => true | some a => inRange 1 Config.maxAccountNumber a)
        && o.cabins.all (inRange 1 Config.maxCabinNumber) && o.zones.all (inRange 1 16)
        && (match o.window with | none => true | some w => validTime w.1 && validTime w.2)
        && inRange 1 32 o.musterStation
        && decide (o.cabins.length ≤ 4) && distinct o.cabins
        && decide (o.zones.length ≤ 4) && distinct o.zones
        && (match o.window with | none => true | some w => notLater w.1 w.2)
        && (!search || cls == .crew || cls == .officer) then
      some { number := o.number, issue := o.issue, cls := cls, status := status, account := o.account,
             cabins := o.cabins, zones := o.zones, window := o.window, musterStation := o.musterStation,
             search := search }
    else none
  | _, _, _ => none

/-- The presence an insertion takes: the one carried, or Unknown (R9); none for a code outside its list. -/
def readCarriedPresence : Option Nat → Option Presence
  | none => some .unknown
  | some p => readPresence p

/-- An offered account whose fields lie in their ranges (R68 test 1): number, state, voyage cap, daily
cap, and the spent values brought. -/
def readAccount (o : AccountOffer) : Option (AccountState × Option Nat × Option Nat) :=
  match readAccountState o.state with
  | some st =>
    if inRange 1 Config.maxAccountNumber o.number && inRange 0 Config.maxCap o.voyageCap
        && inRange 0 Config.maxCap o.dailyCap
        && (match o.voyageSpent with | none => true | some n => inRange 0 Config.maxCap n)
        && (match o.dailySpent with | none => true | some n => inRange 0 Config.maxCap n) then
      some (st, o.voyageSpent, o.dailySpent)
    else none
  | none => none

/-- An offered cabin's fields in their ranges (R46 tests 1 and 2, and the range half of test 3; log 17).
The lock station is returned when present. -/
def readCabin (o : CabinOffer) : Option CabinData :=
  match readSensorSet o.pattern, readSensorSet o.mask, readTamper o.tamper, readPart readSensorSet o.openMask,
      readPart (fun s : Nat × Nat => readStation s.1 s.2) o.lock with
  | some pattern, some mask, some tamper, some openMask, some lock =>
    if inRange 1 Config.maxCabinNumber o.number && inRange 1 16 o.zone
        && (match openMask with | none => true | some m => !m.leafClosed && !m.boltThrown) then
      some { number := o.number, zone := o.zone, lock := lock, pattern := pattern, mask := mask,
             openMask := openMask, tamper := tamper }
    else none
  | _, _, _, _, _ => none

/-- The operating profile when every field is in its range and Strict does not stand with a passage
fallback of Grant (R194). -/
def readProfile (o : ProfileOffer) : Option Profile :=
  match readCountMode o.countMode, readPolicy o.openFallback, readPolicy o.passageFallback with
  | some mode, some opening, some passage =>
    if inRange 2 30 o.openWindow && inRange 5 120 o.entryGrace && inRange 60 1800 o.holdLifetime
        && inRange 1 4 o.terminalHoldLimit && inRange 3 60 o.confirmTimeout && inRange 1 10 o.referralTimeout
        && inRange 1 30 o.repeatWindow && inRange 1 15 o.missLimit && inRange 1 60 o.loadGapTimeout
        && inRange 0 23 o.dayBoundaryHour && !(mode == .strict && passage == .grant) then
      some { openWindow := o.openWindow, entryGrace := o.entryGrace, holdLifetime := o.holdLifetime,
             terminalHoldLimit := o.terminalHoldLimit, confirmTimeout := o.confirmTimeout,
             referralTimeout := o.referralTimeout, repeatWindow := o.repeatWindow, missLimit := o.missLimit,
             loadGapTimeout := o.loadGapTimeout, dayBoundaryHour := o.dayBoundaryHour, countMode := mode,
             openFallback := opening, passageFallback := passage }
    else none
  | _, _, _ => none

/-- The settings of a line when all three are in their ranges (R35). -/
def readLineSettings (speed replyTimeout settle : Nat) : Option LineSettings :=
  match readSpeed speed with
  | some sp =>
    if inRange 2 50 replyTimeout && inRange 10 500 settle then
      some { speed := sp, replyTimeout := replyTimeout, settle := settle }
    else none
  | none => none

/-- The 28 enables of Event Kinds: Enabled 1, Disabled 2, one for each kind (R196). -/
def readEnables (values : List Nat) : Option (Vector Bool 28) :=
  if values.length = 28 ∧ values.all (fun v => v == 1 || v == 2) then
    some (Vector.ofFn fun i => values.getD i.val 2 == 1)
  else none

end Sys2Proof.Machine
end

