-- ==== Sys2Proof/Machine/Flags.lean ====
section
/-! DEFINITION. Conditions and comparisons: the entry watch's comparison over the effective mask (R57),
the conditions of the alarm inputs (R129), the codes of the event kinds (R196) and the order test of the
repeat window (R15). -/

namespace Sys2Proof.Machine

/-! ## Sensor words -/

/-- The sensors in both sets. -/
def sensorsBoth (a b : Sensors) : Sensors :=
  { leafClosed := a.leafClosed && b.leafClosed, boltThrown := a.boltThrown && b.boltThrown,
    privacyKnob := a.privacyKnob && b.privacyKnob, tamperCover := a.tamperCover && b.tamperCover }

/-- The sensors whose values differ. -/
def sensorsDiffer (a b : Sensors) : Sensors :=
  { leafClosed := a.leafClosed != b.leafClosed, boltThrown := a.boltThrown != b.boltThrown,
    privacyKnob := a.privacyKnob != b.privacyKnob, tamperCover := a.tamperCover != b.tamperCover }

/-- The set holds no sensor. -/
def sensorsNone (a : Sensors) : Bool :=
  !a.leafClosed && !a.boltThrown && !a.privacyKnob && !a.tamperCover

/-- The override mask: the open mask override when present, else the sensor mask without leaf closed and
bolt thrown (R57). -/
def Cabin.overrideMask (c : Cabin) : Sensors :=
  match c.data.openMask with
  | some m => m
  | none => { c.data.mask with leafClosed := false, boltThrown := false }

/-- The effective mask: the override mask while override end is present, else the sensor mask (R57). -/
def Cabin.effectiveMask (c : Cabin) : Sensors :=
  match c.overrideEnd with
  | some _ => c.overrideMask
  | none => c.data.mask

/-- The sensors of a word that mismatch (R57). -/
def Cabin.mismatch (c : Cabin) (word : Sensors) : Sensors :=
  sensorsBoth c.effectiveMask (sensorsDiffer word c.data.pattern)

/-- A word matches when no sensor mismatches (R57). -/
def Cabin.wordMatches (c : Cabin) (word : Sensors) : Bool := sensorsNone (c.mismatch word)

/-! ## Alarm inputs -/

/-- The condition of an input at a change of its level to `level` (R129). -/
def AlarmMode.onChange (mode : AlarmMode) (level : Bool) : Bool :=
  match mode with
  | .disabled => true
  | .risingEdge => level
  | .fallingEdge => !level
  | .levelHigh => level
  | .levelLow => !level

/-- A level mode met by the level itself: when configured (R131), after a warm restart (R141), and as the
hold-off of Muster End (R128). -/
def AlarmMode.heldBy (mode : AlarmMode) (level : Bool) : Bool :=
  match mode with
  | .levelHigh => level
  | .levelLow => !level
  | _ => false

/-! ## Event kinds -/

/-- The place of a kind in code order, from 0 (R196: the code is one more). -/
def EventKind.index : EventKind → Fin 28
  | .entryTripped => 0 | .entryRestored => 1 | .lockOutSet => 2 | .lockOutLifted => 3
  | .stationAbsent => 4 | .stationPresent => 5 | .foreignCard => 6 | .supersededCard => 7
  | .blockedCard => 8 | .presenceAnomaly => 9 | .holdLapsed => 10 | .passageAbandoned => 11
  | .latePassage => 12 | .allAboardDue => 13 | .foundAboard => 14 | .wrongMusterStation => 15
  | .musterStarted => 16 | .musterEscalated => 17 | .musterEnded => 18 | .alarmInput => 19
  | .trunkUp => 20 | .trunkDown => 21 | .referralFallback => 22 | .lateAnswer => 23
  | .loadAbandoned => 24 | .dayRollover => 25 | .restart => 26 | .overflow => 27

/-- Whether records of a kind are appended (R196). -/
def EventQueue.enabled (q : EventQueue) (k : EventKind) : Bool := q.enables[k.index]

/-! ## The repeat window -/

/-- The record names the card and its verdict time lies within the repeat window, in seconds (R14, R15). -/
def withinRepeatWindow (record : Option RepeatRecord) (card now window : Nat) : Bool :=
  match record with
  | some r => r.card == card && decide (now - r.time < window * Config.second)
  | none => false

end Sys2Proof.Machine
end

