-- ==== Sys2Proof/Machine/Ops.lean ====
section
/-! DEFINITION. The named operations over the state that every block uses: keyed tables, one setter for
each block, events (R196, R197), frames handed to the trunk (R179), lines and stations, and notices (R33). -/

namespace Sys2Proof.Machine

/-! ## Tables: lists in ascending key, no key twice -/

section Tables
variable {α : Type}

/-- The entry of a key. -/
def lookup (key : α → Nat) (k : Nat) (t : List α) : Option α := t.find? fun x => key x == k

/-- Insert an entry, or replace the entry of its key. -/
def put (key : α → Nat) (x : α) : List α → List α
  | [] => [x]
  | y :: ys =>
    if key x < key y then x :: y :: ys
    else if key x = key y then x :: ys
    else y :: put key x ys

/-- Remove the entry of a key. -/
def erase (key : α → Nat) (k : Nat) (t : List α) : List α := t.filter fun x => key x != k

/-- The canonical form of a table: keys strictly ascending. -/
def ascending (key : α → Nat) : List α → Bool
  | [] => true
  | [_] => true
  | x :: y :: t => decide (key x < key y) && ascending key (y :: t)

/-- Change the value at an index of a vector by a function. -/
def vmodify {n : Nat} (v : Vector α n) (i : Fin n) (f : α → α) : Vector α n := v.set i (f v[i])

/-- Apply a function to every value of a vector. -/
def vmap {n : Nat} (v : Vector α n) (f : α → α) : Vector α n := Vector.ofFn fun i => f v[i]

end Tables

/-- Key of a card entry. -/
def CardEntry.key (e : CardEntry) : Nat := e.data.number

/-- Key of a cabin entry. -/
def Cabin.key (c : Cabin) : Nat := c.data.number

/-- The place of a station in the order of line and address. -/
def stationKey (st : Station) : Nat := st.line.val * 256 + st.addr

/-- Key of a pending passage: its gate. -/
def Passage.key (p : Passage) : Nat := stationKey p.gate

/-! ## Setters, one for each block of the state -/

/-- Set the timebase. -/
def State.setTimebase (s : State) (x : Nat) : State := { s with timebase := x }
/-- Set the power record. -/
def State.setPower (s : State) (x : Power) : State := { s with power := x }
/-- Set the Trunk Port. -/
def State.setTrunk (s : State) (x : TrunkPort) : State := { s with trunk := x }
/-- Set the Command Engine. -/
def State.setEngine (s : State) (x : CommandEngine) : State := { s with engine := x }
/-- Set the eight lines. -/
def State.setLines (s : State) (x : Vector Line 8) : State := { s with lines := x }
/-- Set the Card Table. -/
def State.setCards (s : State) (x : List CardEntry) : State := { s with cards := x }
/-- Set the Cabin Table. -/
def State.setCabins (s : State) (x : List Cabin) : State := { s with cabins := x }
/-- Set the Charge Unit. -/
def State.setCharge (s : State) (x : ChargeUnit) : State := { s with charge := x }
/-- Set the Passage Unit. -/
def State.setPassage (s : State) (x : PassageUnit) : State := { s with passage := x }
/-- Set the Muster Unit. -/
def State.setMuster (s : State) (x : MusterUnit) : State := { s with muster := x }
/-- Set the Referral Unit. -/
def State.setReferral (s : State) (x : ReferralUnit) : State := { s with referral := x }
/-- Set the Event Queue. -/
def State.setEvents (s : State) (x : EventQueue) : State := { s with events := x }
/-- Set the counter of free choices. -/
def State.setFree (s : State) (x : Nat) : State := { s with free := x }
/-- Set the queue of commands. -/
def State.setPending (s : State) (x : List Instr) : State := { s with pending := x }

/-! ## Events -/

/-- The arrival of a record at the Event Queue (R196, R197; log 22). -/
def EventQueue.arrive (q : EventQueue) (r : EventRecord) : EventQueue :=
  if q.enabled r.kind then
    if q.records.length < Config.maxEvents - 1 then { q with records := q.records ++ [r] }
    else if q.records.length = Config.maxEvents - 1 then
      if q.enabled .overflow then
        { q with records := q.records ++ [{ kind := .overflow, time := r.time, detail := some (.discarded 1) }] }
      else q
    else
      match q.records.getLast? with
      | some last =>
        match last.kind, last.detail with
        | .overflow, some (.discarded n) =>
          { q with records := q.records.dropLast ++
              [{ last with detail := some (.discarded (min (n + 1) Config.maxWord16)) }] }
        | _, _ => q
      | none => q
  else q

/-- Append an event record with the voyage time at which it arises, or "unset" (R196). -/
def State.report (s : State) (r : EventRecord) : State :=
  s.setEvents (s.events.arrive { r with time := s.engine.voyage.time })

/-! ## Frames handed to the Trunk Port -/

/-- Hand a frame to the Trunk Port: it joins the frames awaiting transmission, or is discarded while the
trunk is Down (R144, R153, R179). -/
def State.send (s : State) (f : OutFrame) : State :=
  if s.trunk.up then s.setTrunk { s.trunk with outgoing := s.trunk.outgoing ++ [f] } else s

/-- Hand a Status with reception result ACCEPTED and an execution result (R179). -/
def State.answer (s : State) (cls kind tag : Nat) (result : ExecResult) (data : StatusData) : State :=
  s.send (.status { cls := cls, kind := kind, tag := tag, reception := .accepted, result := some result,
                    data := data })

/-! ## Lines and stations -/

/-- The line of a number. -/
def State.line (s : State) (l : LineNo) : Line := s.lines[l]

/-- Replace a line. -/
def State.setLine (s : State) (l : LineNo) (x : Line) : State := s.setLines (s.lines.set l x)

/-- The record of a station, where its slot holds one (R23). -/
def State.station? (s : State) (st : Station) : Option StationRec :=
  lookup StationRec.addr st.addr (s.line st.line).stations

/-- Replace a station's record. -/
def State.setStation (s : State) (l : LineNo) (r : StationRec) : State :=
  s.setLine l { s.line l with stations := put StationRec.addr r (s.line l).stations }

/-- Whether a line has an open request (R35, R37). -/
def Line.busy (x : Line) : Bool := x.stations.any fun r => r.openRequest.isSome

/-- A station kind that keeps a repeat record (R15). -/
def StationKind.keepsRepeat : StationKind → Bool
  | .lock => true
  | .gate => true
  | .musterPoint _ => true
  | _ => false

/-- The station is a Gate. -/
def StationKind.isGate : StationKind → Bool
  | .gate => true
  | _ => false

/-- The number of Gate stations in the part (R23). -/
def State.gateCount (s : State) : Nat :=
  (s.lines.toList.map fun x => (x.stations.filter fun r => r.kind.isGate).length).sum

/-- A station is owed a notice, which replaces one already owed; a notice on the wire to it is then no
longer the one it is owed (R33). -/
def State.oweNotice (s : State) (st : Station) (n : Notice) : State :=
  match s.station? st with
  | none => s
  | some r =>
    let s := s.setStation st.line { r with notice := some n }
    match (s.line st.line).exchange with
    | some x =>
      if x.addr = st.addr then
        s.setLine st.line { s.line st.line with exchange := some { x with noticeLive := false } }
      else s
    | none => s

/-! ## Commands that are taken only while main power is on -/

/-- Nothing is done while main power is off (R187). -/
def State.whenOn (s : State) (f : State → State) : State :=
  if s.power.mainOn then f s else s

/-- The next tag: the lowest value above the last given that is not held, going on from 1 after 65535
(R72, R143). One more value is tried than there are tags held. -/
def nextTag (held : List Nat) : Nat → Nat → Nat
  | 0, last => last
  | tries + 1, last =>
    let t := if last < Config.maxWord16 then last + 1 else 1
    if held.contains t then nextTag held tries t else t

end Sys2Proof.Machine
end

