-- ==== Sys2Proof/Machine/Passage.lean ====
section
/-! DEFINITION. The Passage Unit (06): port state, presence and counters, gate decisions, pending
passages and their ends. -/

namespace Sys2Proof.Machine

/-! ## Counters (R106) -/

/-- The counts of a class. -/
def Counters.get (c : Counters) : HolderClass → PresenceCounts
  | .guest => c.guest | .junior => c.junior | .crew => c.crew | .steward => c.steward
  | .officer => c.officer

/-- Replace the counts of a class. -/
def Counters.put (c : Counters) (k : HolderClass) (x : PresenceCounts) : Counters :=
  match k with
  | .guest => { c with guest := x } | .junior => { c with junior := x } | .crew => { c with crew := x }
  | .steward => { c with steward := x } | .officer => { c with officer := x }

/-- The count of a presence value. -/
def PresenceCounts.get (c : PresenceCounts) : Presence → Nat
  | .aboard => c.aboard | .ashore => c.ashore | .unknown => c.unknown

/-- Replace the count of a presence value. -/
def PresenceCounts.put (c : PresenceCounts) (p : Presence) (n : Nat) : PresenceCounts :=
  match p with
  | .aboard => { c with aboard := n } | .ashore => { c with ashore := n }
  | .unknown => { c with unknown := n }

/-- One counter (R106). -/
def Counters.count (c : Counters) (k : HolderClass) (p : Presence) : Nat := (c.get k).get p

/-- A counter rises by one. -/
def Counters.raise (c : Counters) (k : HolderClass) (p : Presence) : Counters :=
  c.put k ((c.get k).put p (c.count k p + 1))

/-- A counter falls by one. -/
def Counters.lower (c : Counters) (k : HolderClass) (p : Presence) : Counters :=
  c.put k ((c.get k).put p (c.count k p - 1))

/-- The five Ashore counters together (R120). -/
def Counters.ashore (c : Counters) : Nat :=
  c.guest.ashore + c.junior.ashore + c.crew.ashore + c.steward.ashore + c.officer.ashore

/-- Change the counters of the Passage Unit. -/
def State.setCounters (s : State) (c : Counters) : State := s.setPassage { s.passage with counters := c }

/-! ## Presence (R105) -/

/-- A card's presence and stamp change, with the counter movement of R106. -/
def State.setPresence (s : State) (e : CardEntry) (p : Presence) (stamp : Nat) : State :=
  let s := s.setCards (put CardEntry.key { e with presence := p, stamp := stamp } s.cards)
  if e.presence = p then s
  else s.setCounters ((s.passage.counters.lower e.data.cls e.presence).raise e.data.cls p)

/-- The stamp of a local commit: one more, staying at 4,294,967,295 (R105). -/
def nextStamp (stamp : Nat) : Nat := min (stamp + 1) Config.maxWord32

/-- A local commit sets a presence and raises the stamp (R105). -/
def State.commitPresence (s : State) (e : CardEntry) (p : Presence) : State :=
  s.setPresence e p (nextStamp e.stamp)

/-- A found-aboard claim: nothing when the card is already Aboard (R118). -/
def State.foundAboard (s : State) (e : CardEntry) : State :=
  if e.presence = .aboard then s else s.commitPresence e .aboard

/-! ## Pending passages (R108) -/

/-- The pending passage of a gate. -/
def State.passageAt? (s : State) (gate : Station) : Option Passage :=
  s.passage.passages.find? fun p => p.gate == gate

/-- The card has a pending passage at some gate. -/
def State.cardPending (s : State) (card : Nat) : Bool :=
  s.passage.passages.any fun p => p.card == some card

/-- Replace the pending passage list. -/
def State.setPassages (s : State) (ps : List Passage) : State := s.setPassage { s.passage with passages := ps }

/-- Create a pending passage with the confirm timeout in force (R108). -/
def State.openPassage (s : State) (gate : Station) (card : Option Nat) (d : Direction) : State :=
  s.setPassages (put Passage.key
    { gate := gate, card := card, direction := d, left := s.engine.profile.confirmTimeout * Config.second }
    s.passage.passages)

/-- Remove the pending passage of a gate. -/
def State.closePassage (s : State) (gate : Station) : State :=
  s.setPassages (s.passage.passages.filter fun p => p.gate != gate)

/-- Abandon the pending passage of a gate, if it has one, with Passage Abandoned (R111, R113, R121). -/
def State.abandonPassage (s : State) (gate : Station) (why : Detail) : State :=
  match s.passageAt? gate with
  | none => s
  | some p =>
    (s.closePassage gate).report
      { kind := .passageAbandoned, station := some gate, card := p.card, detail := some why }

/-- Abandon a list of pending passages in its order, detail muster (R114). -/
def abandonAll : List Passage → State → State
  | [], s => s
  | p :: ps, s => abandonAll ps (s.abandonPassage p.gate .abandonedMuster)

/-- The muster start abandons every pending Outbound passage, in the order of line and address (R114). -/
def State.abandonOutbound (s : State) : State :=
  abandonAll (s.passage.passages.filter fun p => p.direction == .outbound) s

/-- The presence a commit sets (R105). -/
def Direction.presence : Direction → Presence
  | .outbound => .ashore
  | .inbound => .aboard

/-- The commit of an untracked passage raises its count, which stays at 65535 (R106, R115). -/
def State.countUntracked (s : State) (d : Direction) : State :=
  match d with
  | .inbound => s.setPassage { s.passage with untrackedIn := min (s.passage.untrackedIn + 1) Config.maxWord16 }
  | .outbound => s.setPassage { s.passage with untrackedOut := min (s.passage.untrackedOut + 1) Config.maxWord16 }

/-- The commit of a pending passage (R110, R115). -/
def State.commitPassage (s : State) (p : Passage) : State :=
  let s := s.closePassage p.gate
  match p.card with
  | none => s.countUntracked p.direction
  | some n =>
    match lookup CardEntry.key n s.cards with
    | some e => s.commitPresence e p.direction.presence
    | none => s

/-- A Passage Report from a gate (R110, R112). -/
def decideReport (s : State) (gate : Station) (outcome : Nat) : State × Reason :=
  match readOutcome outcome with
  | none => (s, .parameter)
  | some o =>
    match s.passageAt? gate with
    | none =>
      (s.report { kind := .latePassage, station := some gate, detail := some (.outcome o) }, .late)
    | some p =>
      match o with
      | .passed => (s.commitPassage p, .granted)
      | .notPassed => (s.closePassage gate, .granted)

/-! ## The gate decision (R107) -/

/-- Guest or Junior. -/
def HolderClass.isGuestJunior : HolderClass → Bool
  | .guest => true
  | .junior => true
  | _ => false

/-- The port state is At Sea. -/
def PortState.isAtSea : PortState → Bool
  | .atSea => true
  | _ => false

/-- The port state is Last Call. -/
def PortState.isLastCall : PortState → Bool
  | .lastCall _ => true
  | _ => false

/-- A crossing in the direction the presence already shows (R107 check 6). -/
def wrongDirection (d : Direction) (p : Presence) : Bool :=
  (d == .outbound && p == .ashore) || (d == .inbound && p == .aboard)

/-- The decision on a Gate presentation that has passed the common card checks (R107, R108). -/
def decidePassage (s : State) (gate : Station) (e : CardEntry) (d : Direction) : State × Reason :=
  if s.passage.port.isAtSea then (s, .notInPort)
  else if (s.passageAt? gate).isSome || s.cardPending e.data.number then (s, .busy)
  else if s.muster.state = .alert ∧ d = .outbound then (s, .muster)
  else if s.muster.state = .drill ∧ d = .outbound then (s, .muster)
  else if s.passage.port.isLastCall ∧ d = .outbound ∧ e.data.cls.isGuestJunior then (s, .lastCall)
  else if wrongDirection d e.presence then
    (s.report { kind := .presenceAnomaly, station := some gate, card := some e.data.number }, .direction)
  else (s.openPassage gate (some e.data.number) d, .granted)

/-- The decision on a gate grant without a card entry (R115). -/
def decideUntracked (s : State) (gate : Station) (d : Direction) : State × Reason :=
  if s.engine.profile.countMode = .strict then (s, .unknown)
  else if s.passage.port.isAtSea then (s, .notInPort)
  else if (s.passageAt? gate).isSome then (s, .busy)
  else if s.muster.state ≠ .off ∧ d = .outbound then (s, .muster)
  else if s.passage.port.isLastCall ∧ d = .outbound then (s, .lastCall)
  else (s.openPassage gate none d, .granted)

/-! ## The all-aboard time (R103) -/

/-- The voyage clock has reached the all-aboard time while In Port. -/
def State.allAboardReached (s : State) : Bool :=
  match s.passage.port, s.engine.voyage.time with
  | .inPort t, some c => notLater t c
  | _, _ => false

/-- The transition to Last Call, with All-Aboard Due (R103, R121). -/
def State.enterLastCall (s : State) : State :=
  match s.passage.port with
  | .inPort t =>
    (s.setPassage { s.passage with port := .lastCall t }).report
      { kind := .allAboardDue,
        detail := some (.ashoreCounts s.passage.counters.guest.ashore s.passage.counters.junior.ashore) }
  | _ => s

end Sys2Proof.Machine
end

