-- ==== Sys2Proof/Machine/Muster.lean ====
section
/-! DEFINITION. The Muster Unit (07): muster state, roll and marks, alarm conditions, muster point
decisions, and the derived Unaccounted. -/

namespace Sys2Proof.Machine

/-! ## The roll (R123) -/

/-- The row of a muster station 1 to 32. -/
def rollIndex (station : Nat) : Option (Fin 32) :=
  if h : 1 ≤ station ∧ station ≤ 32 then some ⟨station - 1, by omega⟩ else none

/-- Change the row of a muster station. -/
def MusterUnit.modifyRow (m : MusterUnit) (station : Nat) (f : RollRow → RollRow) : MusterUnit :=
  match rollIndex station with
  | some i => { m with roll := vmodify m.roll i f }
  | none => m

/-- The count of a class's group at a station rises by one. -/
def MusterUnit.raiseRoll (m : MusterUnit) (station : Nat) (c : HolderClass) : MusterUnit :=
  m.modifyRow station fun r =>
    if c.isGuestJunior then { r with guestJunior := r.guestJunior + 1 } else { r with crew := r.crew + 1 }

/-- The count of a class's group at a station falls by one. -/
def MusterUnit.lowerRoll (m : MusterUnit) (station : Nat) (c : HolderClass) : MusterUnit :=
  m.modifyRow station fun r =>
    if c.isGuestJunior then { r with guestJunior := r.guestJunior - 1 } else { r with crew := r.crew - 1 }

/-- The unlisted count of a station rises by one, stopping at 65535 (R136). -/
def MusterUnit.raiseUnlisted (m : MusterUnit) (station : Nat) : MusterUnit :=
  m.modifyRow station fun r => { r with unlisted := min (r.unlisted + 1) Config.maxWord16 }

/-- The Guest/Junior and crew counts of all stations (R138). -/
def MusterUnit.musteredTotal (m : MusterUnit) : Nat :=
  (m.roll.toList.map fun r => r.guestJunior + r.crew).sum

/-- The unlisted counts of all stations (R138). -/
def MusterUnit.unlistedTotal (m : MusterUnit) : Nat := (m.roll.toList.map fun r => r.unlisted).sum

/-! ## The Unaccounted (R139) -/

/-- A card that is Aboard and Unmarked. -/
def CardEntry.unaccounted (e : CardEntry) : Bool := e.presence == .aboard && e.mark == .unmarked

/-- The number of Unaccounted cards. -/
def State.unaccountedTotal (s : State) : Nat := (s.cards.filter CardEntry.unaccounted).length

/-! ## Start, escalation, end -/

/-- Entry to Drill or Alert from Off (R126): `started` is the detail of Muster Started. -/
def State.enterMuster (s : State) (entered : MusterState) (started : Detail) : State :=
  let now := s.engine.voyage.time
  let s := s.setMuster { s.muster with
    state := entered, startTime := some now, alertTime := if entered = .alert then some now else none,
    roll := Vector.replicate 32 RollRow.zero }
  let s := s.setCards (s.cards.map fun e => { e with mark := .unmarked })
  (s.report { kind := .musterStarted, detail := some started }).abandonOutbound

/-- Escalation from Drill to Alert (R127): `how` is the detail of Muster Escalated. -/
def State.escalateMuster (s : State) (how : Detail) : State :=
  (s.setMuster { s.muster with state := .alert, alertTime := some s.engine.voyage.time }).report
    { kind := .musterEscalated, detail := some how }

/-- The end of a muster (R128). -/
def State.endMuster (s : State) : State :=
  (s.setMuster { s.muster with state := .off }).report
    { kind := .musterEnded, detail := some (.unaccounted s.unaccountedTotal) }

/-- Some level input holds Muster End off (R128). -/
def MusterUnit.heldOff (m : MusterUnit) : Bool := m.inputs.toList.any fun i => i.mode.heldBy i.level

/-! ## Alarm conditions (R129, R130) -/

/-- The number of an input, 1 to 4. -/
def inputNumber (i : Fin 4) : Nat := i.val + 1

/-- Change an alarm input. -/
def State.modifyInput (s : State) (i : Fin 4) (f : AlarmInput → AlarmInput) : State :=
  s.setMuster { s.muster with inputs := vmodify s.muster.inputs i f }

/-- The condition of an input occurs: its seen flag is set, and an input that is not Disabled queues Alarm
Input and acts on the muster (R129, R130). -/
def State.alarmCondition (s : State) (i : Fin 4) : State :=
  let s := s.modifyInput i fun x => { x with seen := true }
  if s.muster.inputs[i].mode = .disabled then s
  else
    let s := s.report { kind := .alarmInput, detail := some (.input (inputNumber i)) }
    match s.muster.state with
    | .off => s.enterMuster .alert (.input (inputNumber i))
    | .drill => s.escalateMuster (.input (inputNumber i))
    | .alert => s

/-- A level mode found met raises its condition (R131, R141). -/
def State.alarmIfHeld (s : State) (i : Fin 4) : State :=
  if s.muster.inputs[i].mode.heldBy s.muster.inputs[i].level then s.alarmCondition i else s

/-- A change of an input's level (R129): a level that stays gives nothing. -/
def State.alarmChange (s : State) (i : Fin 4) (level : Bool) : State :=
  if s.muster.inputs[i].level = level then s
  else
    let s := s.modifyInput i fun x => { x with level := level }
    if s.muster.inputs[i].mode.onChange level then s.alarmCondition i else s

/-! ## Muster point decisions (R133-R136) -/

/-- A card is marked Mustered at a station: its count there rises, after a fall at the station it was marked at
before (R134, R135). -/
def State.setMark (s : State) (e : CardEntry) (station : Nat) : State :=
  let m := match e.mark with
    | .unmarked => s.muster
    | .mustered old => s.muster.lowerRoll old e.data.cls
  (s.setMuster (m.raiseRoll station e.data.cls)).setCards
    (put CardEntry.key { e with mark := .mustered station } s.cards)

/-- The mark of a grant, with Wrong Muster Station (R134, R135). -/
def State.markMustered (s : State) (point : Station) (e : CardEntry) (station : Nat) : State :=
  let s := s.setMark e station
  if station = e.data.musterStation then s
  else s.report { kind := .wrongMusterStation, station := some point, card := some e.data.number,
                  detail := some (.musterStation e.data.musterStation) }

/-- The decision on a Muster Point presentation that has passed the common card checks (R133, R134). -/
def decideMuster (s : State) (point : Station) (e : CardEntry) (station : Nat) : State × Reason :=
  if s.muster.state = .off then (s, .muster)
  else if e.mark = .mustered station then (s, .granted)
  else
    let s1 := s.foundAboard e
    let s2 := if e.presence = .ashore then
        s1.report { kind := .foundAboard, station := some point, card := some e.data.number }
      else s1
    match lookup CardEntry.key e.data.number s2.cards with
    | some e' => (s2.markMustered point e' station, .granted)
    | none => (s2, .granted)

/-- The decision on a muster grant without a card entry (R136). -/
def decideUnlisted (s : State) (station : Nat) : State × Reason :=
  if s.muster.state = .off then (s, .muster)
  else (s.setMuster (s.muster.raiseUnlisted station), .granted)

end Sys2Proof.Machine
end

