-- ==== Sys2Proof/Machine/Charge.lean ====
section
/-! DEFINITION. The Charge Unit (04, 05): accounts, holds, the Charge Journal, and the three Bar
requests. -/

namespace Sys2Proof.Machine

/-- The account of a number. -/
def State.account? (s : State) (n : Nat) : Option Account := lookup Account.number n s.charge.accounts

/-- The hold list of an account, oldest first (R66). -/
def ChargeUnit.holdsOf (c : ChargeUnit) (account : Nat) : List Hold :=
  c.holds.filter fun h => h.account == account

/-- The card has an outstanding hold (R11). -/
def ChargeUnit.cardHolds (c : ChargeUnit) (card : Nat) : Bool := c.holds.any fun h => h.card == card

/-- Terminal holds: those of the station that are not detached (R73). -/
def ChargeUnit.terminalHolds (c : ChargeUnit) (st : Station) : Nat :=
  (c.holds.filter fun h => h.station == st && !h.detached).length

/-- The journal count of check 10 (R93). -/
def ChargeUnit.journalCount (c : ChargeUnit) : Nat :=
  if c.lastNumber > Config.journalNumberLimit then Config.journalSlots else c.journal.length

/-- Change an account by its number. -/
def ChargeUnit.modifyAccount (c : ChargeUnit) (n : Nat) (f : Account → Account) : ChargeUnit :=
  match lookup Account.number n c.accounts with
  | some a => { c with accounts := put Account.number (f a) c.accounts }
  | none => c

/-! ## Authorize (R74, R75) -/

/-- The outlet of a Bar station: its kind data (R75). -/
def StationKind.outlet : StationKind → Nat
  | .bar n => n
  | _ => 0

/-- The outlet of a station's record. -/
def State.outletOf (s : State) (st : Station) : Nat :=
  match s.station? st with
  | some r => r.kind.outlet
  | none => 0

/-- Create a hold on an account (R72, R75): the tag it takes, and the state with it. -/
def State.createHold (s : State) (st : Station) (card : Nat) (a : Account) (amount : Nat) (goods : Goods)
    (reference : Nat) : State × Nat :=
  let tag := nextTag (s.charge.holds.map Hold.tag) (s.charge.holds.length + 1) s.charge.lastTag
  let h : Hold :=
    { tag := tag, card := card, account := a.number, station := st, outlet := s.outletOf st,
      reference := reference, amount := amount, goods := goods,
      left := s.engine.profile.holdLifetime * Config.second, detached := false }
  (s.setCharge { s.charge with
      accounts := put Account.number { a with heldTotal := a.heldTotal + amount } s.charge.accounts,
      holds := s.charge.holds ++ [h], lastTag := tag }, tag)

/-- A refusal of an Authorize. -/
def refusedWith (s : State) (r : Reason) : State × Verdict := (s, { reason := r, holdTag := none })

/-- Checks 5 to 12 of R74, on the card's account, and the hold of R75. -/
def authorizeOn (s : State) (st : Station) (e : CardEntry) (a : Account) (amount : Nat) (goods : Goods)
    (reference : Nat) : State × Verdict :=
  if a.state ≠ .opened then refusedWith s .accountHeld
  else if e.data.cls = .junior ∧ goods = .restricted then refusedWith s .age
  else if e.presence = .ashore then
    refusedWith (s.report { kind := .presenceAnomaly, station := some st, card := some e.data.number,
                            account := some a.number }) .presence
  else if s.charge.terminalHolds st ≥ s.engine.profile.terminalHoldLimit then refusedWith s .terminalLimit
  else if (s.charge.holdsOf a.number).length ≥ Config.maxAccountHolds
      ∨ s.charge.holds.length ≥ Config.maxHolds then refusedWith s .holdLimit
  else if s.charge.journalCount + s.charge.holds.length ≥ Config.journalSlots then refusedWith s .journalFull
  else if a.voyageSpent + a.heldTotal + amount > a.voyageCap then refusedWith s .cap
  else if a.dailySpent + a.heldTotal + amount > a.dailyCap then refusedWith s .dailyCap
  else
    let r := s.createHold st e.data.number a amount goods reference
    (r.1, { reason := .granted, holdTag := some r.2 })

/-- The decision on an Authorize that has passed the common card checks (R74). -/
def decideAuthorize (s : State) (st : Station) (e : CardEntry) (amount : Nat) (goods : Goods)
    (reference : Nat) : State × Verdict :=
  if inRange 1 Config.maxAmount amount = false then refusedWith s .parameter
  else if s.muster.state ≠ .off then refusedWith s .barsClosed
  else
    match e.data.account with
    | none => refusedWith s .noAccount
    | some n =>
      match s.account? n with
      | none => refusedWith s .noAccount
      | some a => authorizeOn s st e a amount goods reference

/-! ## The ends of holds (R79) -/

/-- The journal record that ends a hold (R90-R92). -/
def State.recordOf (s : State) (h : Hold) (kind : JournalKind) (amount : Nat) : JournalRecord :=
  { number := s.charge.lastNumber + 1, kind := kind, account := h.account, card := h.card,
    station := h.station, outlet := h.outlet, reference := h.reference, tag := h.tag, amount := amount,
    time := s.engine.voyage.time, day := s.engine.voyage.day }

/-- End a hold with one journal record: the hold leaves, the held total falls by the held amount, the
spent values rise by `charged` (R77-R79). -/
def State.endHold (s : State) (h : Hold) (kind : JournalKind) (amount charged : Nat) : State :=
  let c := s.charge.modifyAccount h.account fun a =>
    { a with voyageSpent := a.voyageSpent + charged, dailySpent := a.dailySpent + charged,
             heldTotal := a.heldTotal - h.amount }
  s.setCharge { c with
    holds := c.holds.filter fun x => x.tag != h.tag,
    journal := c.journal ++ [s.recordOf h kind amount], lastNumber := c.lastNumber + 1 }

/-- The outstanding hold of a tag. -/
def State.hold? (s : State) (tag : Nat) : Option Hold := s.charge.holds.find? fun h => h.tag == tag

/-- The outstanding hold that a Complete or Cancel from a station names: not one of another station, nor a
detached one (R77 case 1). -/
def State.holdFor? (s : State) (st : Station) (tag : Nat) : Option Hold :=
  match s.hold? tag with
  | some h => if h.station = st ∧ h.detached = false then some h else none
  | none => none

/-- A Complete request (R77). -/
def decideComplete (s : State) (st : Station) (tag amount : Nat) : State × Reason :=
  match s.holdFor? st tag with
  | none => (s, .late)
  | some h =>
    if amount > h.amount then (s, .parameter)
    else (s.endHold h .completed amount amount, .granted)

/-- A Cancel request (R78). -/
def decideCancel (s : State) (st : Station) (tag : Nat) : State × Reason :=
  match s.holdFor? st tag with
  | none => (s, .late)
  | some h => (s.endHold h .cancelled h.amount 0, .granted)

/-- A hold lapses: a Lapsed record and a Hold Lapsed event (R80). -/
def State.lapseHold (s : State) (h : Hold) : State :=
  (s.endHold h .lapsed h.amount 0).report
    { kind := .holdLapsed, station := some h.station, card := some h.card, account := some h.account,
      detail := some (.holdTag h.tag) }

/-- A warm restart ends every hold as Lapsed, in the order of a list, with no event (R87). -/
def lapseAll : List Hold → State → State
  | [], s => s
  | h :: hs, s => lapseAll hs (s.endHold h .lapsed h.amount 0)

/-- Removing a Bar station detaches its holds (R82). -/
def State.detachHolds (s : State) (st : Station) : State :=
  s.setCharge { s.charge with
    holds := s.charge.holds.map fun h => if h.station = st then { h with detached := true } else h }

/-! ## The day rollover (R85, R192) -/

/-- One day rollover: daily spent 0 in every account, the day number advances, Day Rollover is queued. -/
def State.rollover (s : State) : State :=
  let day := (s.engine.voyage.day + 1) % 65536
  let s := s.setCharge { s.charge with accounts := s.charge.accounts.map fun a => { a with dailySpent := 0 } }
  let s := s.setEngine { s.engine with voyage := { s.engine.voyage with day := day } }
  s.report { kind := .dayRollover, detail := some (.dayNumber day) }

/-! ## Account claims (R68-R70, R165) -/

/-- An account entry offered by a Merge load (R68, R69). -/
def offerAccount (s : State) (o : AccountOffer) : State × ExecResult :=
  match readAccount o with
  | none => (s, .parameter)
  | some (st, voyage, daily) =>
    match s.account? o.number with
    | some a =>
      let b : Account := { a with state := st, voyageCap := o.voyageCap, dailyCap := o.dailyCap,
                                  voyageSpent := voyage.getD a.voyageSpent, dailySpent := daily.getD a.dailySpent }
      if b.voyageSpent + b.heldTotal > b.voyageCap then (s, .parameter)
      else if b.dailySpent + b.heldTotal > b.dailyCap then (s, .parameter)
      else if st = .closed ∧ s.charge.holdsOf o.number ≠ [] then (s, .inUse)
      else (s.setCharge { s.charge with accounts := put Account.number b s.charge.accounts }, .ok)
    | none =>
      let b : Account := { number := o.number, state := st, voyageCap := o.voyageCap,
                           voyageSpent := voyage.getD 0, dailyCap := o.dailyCap, dailySpent := daily.getD 0,
                           heldTotal := 0 }
      if b.voyageSpent > b.voyageCap then (s, .parameter)
      else if b.dailySpent > b.dailyCap then (s, .parameter)
      else if s.charge.accounts.length ≥ Config.maxAccounts then (s, .full)
      else (s.setCharge { s.charge with accounts := put Account.number b s.charge.accounts }, .ok)

/-- An account removal offered by a Purge load (R165). -/
def purgeAccount (s : State) (n : Nat) : State × ExecResult :=
  if inRange 1 Config.maxAccountNumber n = false then (s, .parameter)
  else if (s.account? n).isNone then (s, .notFound)
  else if s.charge.holdsOf n ≠ [] then (s, .inUse)
  else (s.setCharge { s.charge with accounts := erase Account.number n s.charge.accounts }, .ok)

/-- The parts of Account Write in their ranges (R70 case 1). -/
def readAccountParts (account : Nat) (state voyageCap dailyCap : Option Nat) : Option (Option AccountState) :=
  match readPart readAccountState state with
  | none => none
  | some st =>
    if inRange 1 Config.maxAccountNumber account
        && (state.isSome || voyageCap.isSome || dailyCap.isSome)
        && (match voyageCap with | none => true | some c => inRange 0 Config.maxCap c)
        && (match dailyCap with | none => true | some c => inRange 0 Config.maxCap c) then some st
    else none

/-- Account Write (R70). -/
def writeAccount (s : State) (account : Nat) (state voyageCap dailyCap : Option Nat) : State × ExecResult :=
  match readAccountParts account state voyageCap dailyCap with
  | none => (s, .parameter)
  | some st =>
    match s.account? account with
    | none => (s, .notFound)
    | some a =>
      if voyageCap.getD a.voyageCap < a.voyageSpent + a.heldTotal ∧ voyageCap.isSome then (s, .parameter)
      else if dailyCap.getD a.dailyCap < a.dailySpent + a.heldTotal ∧ dailyCap.isSome then (s, .parameter)
      else if st = some .closed ∧ s.charge.holdsOf account ≠ [] then (s, .inUse)
      else
        let b : Account := { a with state := st.getD a.state, voyageCap := voyageCap.getD a.voyageCap,
                                    dailyCap := dailyCap.getD a.dailyCap }
        (s.setCharge { s.charge with accounts := put Account.number b s.charge.accounts }, .ok)

/-! ## Journal Read and Journal Release (R95-R97) -/

/-- The number of the oldest record held, 0 when the journal is empty (R96, R97). -/
def oldestNumber (j : List JournalRecord) : Nat :=
  match j with
  | [] => 0
  | r :: _ => r.number

/-- The records a Journal Read returns (R95): those numbered from `start` on, oldest first, up to `count`. -/
def journalPage (j : List JournalRecord) (start count : Nat) : List JournalRecord :=
  (j.filter fun r => decide (start ≤ r.number)).take count

/-- Journal Read (R95, R96). -/
def readJournal (s : State) (start count : Nat) : ExecResult × StatusData :=
  if inRange 1 Config.maxWord32 start && inRange 1 16 count then
    (.ok, .journal (journalPage s.charge.journal start count) (oldestNumber s.charge.journal)
      s.charge.lastNumber)
  else (.parameter, .none)

/-- Journal Release (R97). -/
def releaseJournal (s : State) (n : Nat) : State × ExecResult × StatusData :=
  if inRange 1 Config.maxWord32 n = false then (s, .parameter, .none)
  else if n > s.charge.lastNumber then (s, .parameter, .none)
  else
    let left := s.charge.journal.filter fun r => decide (n < r.number)
    (s.setCharge { s.charge with journal := left }, .ok,
      .released (s.charge.journal.length - left.length) (oldestNumber left))

end Sys2Proof.Machine
end

