-- ==== Sys2Proof/Machine/Access.lean ====
section
/-! DEFINITION. The Access Unit (03): cabins and their links, sensor words and the entry watch, the open
and lock-out decisions, open windows, access trails, Cabin Write. -/

namespace Sys2Proof.Machine

/-- The cabin whose lock station is a station (R48). -/
def State.cabinAt? (s : State) (st : Station) : Option Cabin := s.cabins.find? fun c => c.data.lock == some st

/-- The cabin of a number. -/
def State.cabin? (s : State) (n : Nat) : Option Cabin := lookup Cabin.key n s.cabins

/-- Replace a cabin's entry. -/
def State.setCabin (s : State) (c : Cabin) : State := s.setCabins (put Cabin.key c s.cabins)

/-! ## The entry watch (R57-R60) -/

/-- The watch that a comparison leaves: Armed on a match, Tripped on a mismatch. -/
def watchAfter (matched : Bool) : Watch := if matched then .armed else .tripped

/-- Re-evaluation: the last sensor word, when present, is compared under the terms as they stand (R59). -/
def Cabin.reevaluate (c : Cabin) : Cabin :=
  match c.lastWord with
  | some w => { c with watch := watchAfter (c.wordMatches w) }
  | none => c

/-- The cabin is locked out. -/
def LockState.isLockedOut : LockState → Bool
  | .lockedOut _ => true
  | _ => false

/-- A trip under R58: the tamper action of R60, then one Entry Tripped. -/
def State.tripWatch (s : State) (c : Cabin) (word : Sensors) : State :=
  if c.data.tamper = .lockOut ∧ (c.mismatch word).tamperCover ∧ c.lockState.isLockedOut = false then
    ((s.setCabin { c with lockState := .lockedOut .automatic }).report
        { kind := .lockOutSet, station := c.data.lock, cabin := some c.data.number, detail := some .automatic }).report
      { kind := .entryTripped, station := c.data.lock, cabin := some c.data.number, detail := some .lockOutApplied }
  else
    (s.setCabin c).report { kind := .entryTripped, station := c.data.lock, cabin := some c.data.number }

/-- A sensor word is taken for a cabin (R45, R58): stored, privacy set from the knob, the watch moved. -/
def State.takeWordFor (s : State) (c : Cabin) (word : Sensors) : State :=
  let matched := c.wordMatches word
  let c' : Cabin := { c with lastWord := some word, privacy := word.privacyKnob, watch := watchAfter matched }
  match c.lastWord with
  | none => s.setCabin c'
  | some _ =>
    if c.watch = .armed ∧ matched = false then s.tripWatch c' word
    else if c.watch = .tripped ∧ matched then
      (s.setCabin c').report { kind := .entryRestored, station := c.data.lock, cabin := some c.data.number }
    else s.setCabin c'

/-- A Lock's sensor word (R45): discarded when no cabin names the station. -/
def State.takeWord (s : State) (st : Station) (word : Sensors) : State :=
  match s.cabinAt? st with
  | some c => s.takeWordFor c word
  | none => s

/-! ## Grants and decisions (R49-R55) -/

/-- The effects of a GRANTED open on the cabin (R51). -/
def State.grantCabin (s : State) (c : Cabin) : State :=
  let window := s.timebase + s.engine.profile.openWindow * Config.second
  s.setCabin (Cabin.reevaluate { c with
    lockState := if c.lockState.isLockedOut then c.lockState else .openWindow
    windowEnd := some window
    overrideEnd := some (window + s.engine.profile.entryGrace * Config.second) })

/-- Whether a card reaches a cabin, by its class (R50). -/
def reaches (e : CardEntry) (c : Cabin) : Bool :=
  match e.data.cls with
  | .guest => e.data.cabins.contains c.data.number
  | .junior => e.data.cabins.contains c.data.number
  | .crew => e.data.cabins.contains c.data.number
  | .steward => e.data.zones.contains c.data.zone
  | .officer => true

/-- The decision on an Open gesture that has passed the common card checks (R48, R49, R50). -/
def decideOpen (s : State) (st : Station) (e : CardEntry) : State × Reason :=
  match s.cabinAt? st with
  | none => (s, .noCabin)
  | some c =>
    if s.muster.state = .alert ∧ e.data.search then (s.grantCabin c, .granted)
    else if c.lockState.isLockedOut ∧ e.data.cls = .officer then (s.grantCabin c, .granted)
    else if c.lockState.isLockedOut then (s, .lockedOut)
    else if c.privacy ∧ e.data.cls = .steward then (s, .privacy)
    else if reaches e c = false then (s, .notListed)
    else
      let s := s.grantCabin c
      if e.data.cls.isGuestJunior ∧ e.presence = .ashore then
        (s.report { kind := .presenceAnomaly, station := some st, card := some e.data.number,
                    cabin := some c.data.number }, .granted)
      else (s, .granted)

/-- The decision on a Lockout gesture that has passed the common card checks (R48, R54). -/
def decideLockout (s : State) (st : Station) (e : CardEntry) : State × Reason :=
  match s.cabinAt? st with
  | none => (s, .noCabin)
  | some c =>
    if e.data.cls = .officer then
      if c.lockState.isLockedOut then
        ((s.setCabin { c with lockState := .secured }).report
          { kind := .lockOutLifted, station := c.data.lock, card := some e.data.number,
            cabin := some c.data.number, detail := some .gesture }, .granted)
      else
        ((s.setCabin { c with lockState := .lockedOut (.officer e.data.number) }).report
          { kind := .lockOutSet, station := c.data.lock, card := some e.data.number,
            cabin := some c.data.number, detail := some .gesture }, .granted)
    else if c.lockState.isLockedOut then (s, .lockedOut)
    else (s, .notListed)

/-- A grant of an Open without a card entry (R55). -/
def decideReferredOpen (s : State) (st : Station) : State × Reason :=
  match s.cabinAt? st with
  | none => (s, .noCabin)
  | some c => if c.lockState.isLockedOut then (s, .lockedOut) else (s.grantCabin c, .granted)

/-! ## Windows and override periods (R52, R53) -/

/-- The end of a cabin's open window (R52). -/
def Cabin.endWindow (c : Cabin) : Cabin :=
  { c with windowEnd := none, lockState := if c.lockState = .openWindow then .secured else c.lockState }

/-- The end of a cabin's override period (R53). -/
def Cabin.endOverride (c : Cabin) : Cabin := Cabin.reevaluate { c with overrideEnd := none }

/-! ## The access trail (R56) -/

/-- Append a record, dropping the oldest beyond 8. -/
def appendTrail (trail : List AccessRecord) (r : AccessRecord) : List AccessRecord :=
  (trail ++ [r]).drop (trail.length + 1 - Config.maxTrail)

/-- Record a verdict at a station in the trail of the cabin linked to it, if one is. -/
def State.recordTrail (s : State) (st : Station) (card : Nat) (g : Gesture) (r : Reason) : State :=
  match s.cabinAt? st with
  | none => s
  | some c =>
    s.setCabin { c with trail := appendTrail c.trail
                          { card := card, time := s.engine.voyage.time, gesture := g, reason := r } }

/-! ## Cabin claims (R46, R47, R166) -/

/-- Test 3 of R46: a lock station, when present, holds an enrolled Lock station. -/
def State.isLockStation (s : State) (st : Station) : Bool :=
  match s.station? st with
  | some r => r.kind == .lock
  | none => false

/-- Tests 3 and 4 of R46 on the lock station of an offered cabin. -/
def State.linkAllowed (s : State) (d : CabinData) : Bool :=
  match d.lock with
  | none => true
  | some st =>
    s.isLockStation st &&
      (match s.cabinAt? st with | some c => c.data.number == d.number | none => true)

/-- A cabin as inserted (R47). -/
def newCabin (d : CabinData) : Cabin :=
  { data := d, lockState := .secured, windowEnd := none, overrideEnd := none, lastWord := none,
    watch := .armed, privacy := false, trail := [] }

/-- A cabin rewritten (R47). -/
def Cabin.rewrite (c : Cabin) (d : CabinData) : Cabin :=
  if c.data.lock = d.lock then
    let c' : Cabin := { c with data := d }
    if c.data.pattern = d.pattern ∧ c.data.mask = d.mask ∧ c.data.openMask = d.openMask then c'
    else c'.reevaluate
  else
    { c with data := d, windowEnd := none, overrideEnd := none, lastWord := none,
             lockState := if c.lockState = .openWindow then .secured else c.lockState }

/-- A cabin entry offered by a Merge load (R46, R47). -/
def offerCabin (s : State) (o : CabinOffer) : State × ExecResult :=
  match readCabin o with
  | none => (s, .parameter)
  | some d =>
    if s.linkAllowed d = false then (s, .parameter)
    else
      match s.cabin? d.number with
      | some c => (s.setCabin (c.rewrite d), .ok)
      | none =>
        if s.cabins.length ≥ Config.maxCabins then (s, .full) else (s.setCabin (newCabin d), .ok)

/-- A cabin removal offered by a Purge load (R166). -/
def purgeCabin (s : State) (n : Nat) : State × ExecResult :=
  if inRange 1 Config.maxCabinNumber n = false then (s, .parameter)
  else if (s.cabin? n).isNone then (s, .notFound)
  else (s.setCabins (erase Cabin.key n s.cabins), .ok)

/-! ## Cabin Write (R61, R62) -/

/-- The lock-out part: Set or Lift (R61). -/
def State.writeLockOut (s : State) (c : Cabin) (set : Bool) : State :=
  if set then
    if c.lockState.isLockedOut then s.setCabin { c with lockState := .lockedOut .command }
    else
      (s.setCabin { c with lockState := .lockedOut .command }).report
        { kind := .lockOutSet, station := c.data.lock, cabin := some c.data.number, detail := some .command }
  else if c.lockState.isLockedOut then
    (s.setCabin { c with lockState := .secured }).report
      { kind := .lockOutLifted, station := c.data.lock, cabin := some c.data.number, detail := some .command }
  else s

/-- The watch part: expected pattern and sensor mask together, then re-evaluation (R62). -/
def Cabin.writeWatch (c : Cabin) (pattern mask : Sensors) : Cabin :=
  Cabin.reevaluate { c with data := { c.data with pattern := pattern, mask := mask } }

/-- The tamper part (R62). -/
def Cabin.writeTamper (c : Cabin) (t : TamperAction) : Cabin := { c with data := { c.data with tamper := t } }

/-- Change the cabin of a number. -/
def State.modifyCabin (s : State) (n : Nat) (f : Cabin → Cabin) : State :=
  match s.cabin? n with
  | some c => s.setCabin (f c)
  | none => s

/-- A watch part as carried: a pattern and a mask naming no sensor but the four (R61). -/
def readWatchPart (w : Nat × Nat) : Option (Sensors × Sensors) :=
  match readSensorSet w.1, readSensorSet w.2 with
  | some p, some m => some (p, m)
  | _, _ => none

/-- Cabin Write (R61, R62): the parts in the order lock-out, watch, tamper. -/
def writeCabin (s : State) (n : Nat) (lockOut : Option Nat) (watch : Option (Nat × Nat))
    (tamper : Option Nat) : State × ExecResult :=
  match readPart readLockOutPart lockOut, readPart readWatchPart watch, readPart readTamper tamper with
  | some lo, some wa, some ta =>
    if inRange 1 Config.maxCabinNumber n = false ∨ (lo.isNone ∧ wa.isNone ∧ ta.isNone) then (s, .parameter)
    else
      match s.cabin? n with
      | none => (s, .notFound)
      | some c =>
        let s := match lo with
          | some set => s.writeLockOut c set
          | none => s
        let s := match wa with
          | some (p, m) => s.modifyCabin n fun c => c.writeWatch p m
          | none => s
        let s := match ta with
          | some t => s.modifyCabin n fun c => c.writeTamper t
          | none => s
        (s, .ok)
  | _, _, _ => (s, .parameter)

end Sys2Proof.Machine
end

