-- ==== Sys2Proof/Machine/Cards.lean ====
section
/-! DEFINITION. The Card Check Unit's claims on the Card Table (01, 09): insertions, rewrites and removals
with the counters and the roll they move, and the tests an offered entry meets. -/

namespace Sys2Proof.Machine

/-- The card entry of a number. -/
def State.card? (s : State) (n : Nat) : Option CardEntry := lookup CardEntry.key n s.cards

/-- An insertion: presence as given, stamp 0, mark Unmarked; its counter rises (R9). -/
def State.insertCard (s : State) (d : CardData) (p : Presence) : State :=
  (s.setCards (put CardEntry.key { data := d, presence := p, stamp := 0, mark := .unmarked } s.cards)).setCounters
    (s.passage.counters.raise d.cls p)

/-- The roll's move when the class of a Mustered card changes its group during Drill or Alert (R137). -/
def State.moveRoll (s : State) (e : CardEntry) (cls : HolderClass) : State :=
  match e.mark with
  | .mustered st =>
    if s.muster.state ≠ .off ∧ e.data.cls.isGuestJunior ≠ cls.isGuestJunior then
      s.setMuster ((s.muster.lowerRoll st e.data.cls).raiseRoll st cls)
    else s
  | .unmarked => s

/-- A rewrite: the loaded fields are replaced, presence, stamp and mark kept; a change of class moves the
counters and, during muster, the roll (R9, R137). -/
def State.rewriteCard (s : State) (e : CardEntry) (d : CardData) : State :=
  let s' := s.setCards (put CardEntry.key { e with data := d } s.cards)
  if e.data.cls = d.cls then s'
  else
    (s'.setCounters ((s'.passage.counters.lower e.data.cls e.presence).raise d.cls e.presence)).moveRoll e d.cls

/-- A removal: the entry leaves and its counter falls (R9). -/
def State.removeCard (s : State) (e : CardEntry) : State :=
  (s.setCards (erase CardEntry.key e.data.number s.cards)).setCounters
    (s.passage.counters.lower e.data.cls e.presence)

/-- The protected card range stands against a card number (R171). -/
def Protection.guards (p : Protection) (n : Nat) : Bool :=
  match p.range with
  | some (low, high) => !p.rangeRewrite && inRange low high n
  | none => false

/-- Work in progress that refuses the removal of a card (R11). -/
def State.removalInUse (s : State) (e : CardEntry) : Bool :=
  s.charge.cardHolds e.data.number || s.cardPending e.data.number
    || (s.muster.state != .off && e.mark != .unmarked)

/-- Tests 2 to 4 of R163 on a well-formed entry, and its application: insertion or rewrite. The presence
carried is tested at insertion (log 18). -/
def State.applyCard (s : State) (d : CardData) (presence : Option Nat) : State × ExecResult :=
  match s.card? d.number with
  | some e =>
    if s.engine.protection.guards d.number then (s, .protect)
    else if e.data.account ≠ d.account ∧ s.charge.cardHolds d.number then (s, .inUse)
    else (s.rewriteCard e d, .ok)
  | none =>
    match readCarriedPresence presence with
    | none => (s, .parameter)
    | some p =>
      if s.engine.protection.guards d.number then (s, .protect)
      else if s.cards.length ≥ Config.maxCards then (s, .full)
      else (s.insertCard d p, .ok)

/-- A card entry offered by a Merge load (R163). -/
def offerCard (s : State) (o : CardOffer) : State × ExecResult :=
  match readCard o with
  | none => (s, .parameter)
  | some d => s.applyCard d o.presence

/-- A card removal offered by a Purge load (R164). -/
def purgeCard (s : State) (n : Nat) : State × ExecResult :=
  if inRange 1 Config.maxCardNumber n = false then (s, .parameter)
  else if s.engine.protection.guards n then (s, .protect)
  else
    match s.card? n with
    | none => (s, .notFound)
    | some e => if s.removalInUse e then (s, .inUse) else (s.removeCard e, .ok)

/-- The install result of a per-entry result (R148). -/
def installOf : ExecResult → InstallResult
  | .ok => .installed | .protect => .protect | .inUse => .inUse | .full => .full
  | _ => .parameter

/-- An entry carried by an Answer is offered for installation (R148): `presented` is the presented card
number, absent for a late Answer (R151). -/
def installCard (s : State) (presented : Option Nat) : Option CardOffer → State × Option InstallResult
  | none => (s, none)
  | some o =>
    match readCard o with
    | none => (s, some .parameter)
    | some d =>
      if presented.any (fun n => n != d.number) then (s, some .parameter)
      else
        let r := s.applyCard d o.presence
        (r.1, some (installOf r.2))

/-- A page of card numbers from a start, of those that satisfy a test (R120, R139). -/
def cardPage (cards : List CardEntry) (test : CardEntry → Bool) (start : Nat) : List Nat × Option Nat :=
  let all := (cards.filter fun e => test e && decide (start ≤ e.data.number)).map CardEntry.key
  let page := all.take Config.pageSize
  (page, if all.length > Config.pageSize then page.getLast?.map (· + 1) else none)

/-- Presence Set (R116). -/
def setCardPresence (s : State) (card presence stamp : Nat) : State × ExecResult × StatusData :=
  match readPresence presence with
  | none => (s, .parameter, .none)
  | some p =>
    if (inRange 1 Config.maxCardNumber card && inRange 0 Config.maxWord32 stamp) = false then
      (s, .parameter, .none)
    else
      match s.card? card with
      | none => (s, .notFound, .none)
      | some e =>
        if stamp ≤ e.stamp then (s, .stale, .stamp e.stamp)
        else if s.muster.state ≠ .off ∧ e.mark ≠ .unmarked ∧ p ≠ .aboard then (s, .inUse, .none)
        else (s.setPresence e p stamp, .ok, .none)

end Sys2Proof.Machine
end

