-- ==== Sys2Proof/Machine/CardCheck.lean ====
section
/-! DEFINITION. Decisions on presentations: verdicts taken by the Line Controllers (R32), repeat records
(R15), the common card checks (R13-R19), the job units (R20), referrals, fallbacks and Answers (08). -/

namespace Sys2Proof.Machine

/-! ## Verdicts (R15, R32, R56) -/

/-- A verdict with no hold tag. -/
def plainVerdict (r : Reason) : Verdict := { reason := r, holdTag := none }

/-- The Line Controller drops a verdict: a granted crossing's passage is abandoned, detail absent (R113). -/
def State.dropVerdict (s : State) (st : Station) (crossing : Bool) (v : Verdict) : State :=
  if crossing ∧ v.reason = .granted then s.abandonPassage st .abandonedAbsent else s

/-- The Line Controller takes a verdict for a request number (R32): stored as Ready in a Deciding open
request of that number, else dropped (log 30). -/
def State.takeVerdict (s : State) (st : Station) (number : Nat) (crossing : Bool) (v : Verdict) : State :=
  match s.station? st with
  | none => s.dropVerdict st crossing v
  | some r =>
    match r.openRequest with
    | none => s.dropVerdict st crossing v
    | some q =>
      if q.number = number ∧ q.state = .deciding then
        s.setStation st.line { r with openRequest := some { q with state := .ready v } }
      else s.dropVerdict st crossing v

/-- A verdict other than REPEAT writes the station's repeat record (R15). -/
def State.writeRepeat (s : State) (st : Station) (card : Nat) : State :=
  match s.station? st with
  | none => s
  | some r =>
    if r.kind.keepsRepeat then
      s.setStation st.line { r with repeatRecord := some { card := card, time := s.timebase } }
    else s

/-- At a Lock, a verdict is recorded in the access trail (R56). -/
def State.recordGesture (s : State) (p : Presentation) (r : Reason) : State :=
  match p.part with
  | .openDoor => s.recordTrail p.station p.card .openDoor r
  | .lockout => s.recordTrail p.station p.card .lockout r
  | _ => s

/-- The presentation asks for a crossing. -/
def Presentation.isCrossing (p : Presentation) : Bool :=
  match p.part with
  | .passage _ => true
  | _ => false

/-- A verdict other than REPEAT is given to a presentation: repeat record, access trail, and the open
request (R15, R32, R56). -/
def State.giveVerdict (s : State) (p : Presentation) (number : Nat) (v : Verdict) : State :=
  ((s.writeRepeat p.station p.card).recordGesture p v.reason).takeVerdict p.station number p.isCrossing v

/-! ## The job units (R20) -/

/-- A reason as a verdict. -/
def asVerdict (r : State × Reason) : State × Verdict := (r.1, plainVerdict r.2)

/-- The job unit of the presentation decides it against a card entry (R20). -/
def decideJob (s : State) (p : Presentation) (e : CardEntry) : State × Verdict :=
  match p.part with
  | .openDoor => asVerdict (decideOpen s p.station e)
  | .lockout => asVerdict (decideLockout s p.station e)
  | .authorize amount goods reference => decideAuthorize s p.station e amount goods reference
  | .passage d => asVerdict (decidePassage s p.station e d)
  | .muster m => asVerdict (decideMuster s p.station e m)

/-- A grant without a card entry, by the job (R146, R150): Lockout gestures and Authorizes give UNKNOWN. -/
def decideGrant (s : State) (p : Presentation) : State × Verdict :=
  match p.part with
  | .openDoor => asVerdict (decideReferredOpen s p.station)
  | .lockout => (s, plainVerdict .unknown)
  | .authorize _ _ _ => (s, plainVerdict .unknown)
  | .passage d => asVerdict (decideUntracked s p.station d)
  | .muster m => asVerdict (decideUnlisted s m)

/-! ## Checks from the issue check on (R17-R19) -/

/-- What the checks from the issue check on give. -/
inductive CheckOutcome where
  | passed
  | refused (reason : Reason) (event : Option EventKind)
  | referred (cause : ReferralCause)
  deriving DecidableEq, Repr

/-- The issue, status and validity checks (R17, R18, R19). -/
def checkEntry (clock : Option DateTime) (issue : Nat) (e : CardEntry) : CheckOutcome :=
  if issue < e.data.issue then .refused .superseded (some .supersededCard)
  else if e.data.issue < issue then .referred .higherIssue
  else if e.data.status = .blocked then .refused .blocked (some .blockedCard)
  else
    match e.data.window, clock with
    | none, _ => .passed
    | some _, none => .referred .windowClockUnset
    | some (start, stop), some now =>
      if notLater start now && notLater now stop then .passed else .refused .expired none

/-- A card event with the presenting station and the presented card number (R21). -/
def State.reportCard (s : State) (k : EventKind) (p : Presentation) : State :=
  s.report { kind := k, station := some p.station, card := some p.card }

/-- A refusal by a check: its verdict, with its event where it has one. -/
def State.refuseBy (s : State) (p : Presentation) (event : Option EventKind) : State :=
  match event with
  | some k => s.reportCard k p
  | none => s

/-! ## Fallback (R146) -/

/-- Whether the fallback policy of the job is a grant (R146). -/
def fallbackGrants (profile : Profile) : JobPart → Bool
  | .openDoor => profile.openFallback == .grant
  | .lockout => false
  | .authorize _ _ _ => false
  | .passage _ => profile.passageFallback == .grant
  | .muster _ => true

/-- The decision of a fallback. -/
def decideFallback (s : State) (p : Presentation) : State × Verdict :=
  if fallbackGrants s.engine.profile p.part then decideGrant s p else (s, plainVerdict .unknown)

/-- A fallback decides a presentation, with Referral Fallback (R146, R158). -/
def State.fallback (s : State) (p : Presentation) (number : Nat) (why : FallbackCause) : State :=
  let r := decideFallback s p
  (r.1.giveVerdict p number r.2).report
    { kind := .referralFallback, station := some p.station, card := some p.card, detail := some (.cause why) }

/-! ## Referrals (R142-R144) -/

/-- Create a referral and hand its Referral frame (R143, R144). -/
def State.createReferral (s : State) (p : Presentation) (number : Nat) (cause : ReferralCause) : State :=
  let tag := nextTag (s.referral.list.map Referral.tag) (s.referral.list.length + 1) s.referral.lastTag
  let r : Referral :=
    { tag := tag, presentation := p, cause := cause, number := number,
      left := s.engine.profile.referralTimeout * Config.second }
  (s.setReferral { list := s.referral.list ++ [r], lastTag := tag }).send (.referral tag p cause)

/-- The Referral Unit takes a presentation (R142). -/
def State.refer (s : State) (p : Presentation) (number : Nat) (cause : ReferralCause) : State :=
  if s.trunk.up = false then s.fallback p number .trunkDown
  else if s.referral.list.length < Config.maxReferrals then s.createReferral p number cause
  else s.fallback p number .listFull

/-- Remove the referral of a tag (R143). -/
def State.dropReferral (s : State) (tag : Nat) : State :=
  s.setReferral { s.referral with list := s.referral.list.filter fun r => r.tag != tag }

/-- Remove the referral of a station (R152). -/
def State.dropStationReferral (s : State) (st : Station) : State :=
  s.setReferral { s.referral with list := s.referral.list.filter fun r => r.presentation.station != st }

/-- The outstanding referral of a tag; a tag of 0 names none (R147). -/
def State.referral? (s : State) (tag : Nat) : Option Referral :=
  if tag = 0 then none else s.referral.list.find? fun r => r.tag == tag

/-- Decide a list of referrals by fallback, in its order (R154). -/
def fallbackAll : List Referral → State → State
  | [], s => s
  | r :: rs, s => fallbackAll rs ((s.dropReferral r.tag).fallback r.presentation r.number .trunkLoss)

/-! ## The common card checks (R13-R16) -/

/-- The presented vessel code is in a non-empty slot (R14). -/
def State.vesselAccepted (s : State) (vessel : Nat) : Bool :=
  s.engine.vesselCodes.toList.any fun c => c == some vessel

/-- The repeat record of a station. -/
def State.repeatRecord (s : State) (st : Station) : Option RepeatRecord :=
  match s.station? st with
  | some r => r.repeatRecord
  | none => none

/-- The station's repeat record names the card within the repeat window (R14, R15). -/
def State.isRepeat (s : State) (p : Presentation) : Bool :=
  withinRepeatWindow (s.repeatRecord p.station) p.card s.timebase s.engine.profile.repeatWindow

/-- The repeat filter applies at Lock, Gate and Muster Point stations, so not at a Bar (R13). -/
def JobPart.filtersRepeats : JobPart → Bool
  | .authorize _ _ _ => false
  | _ => true

/-- The common card checks and the decision that follows, on a presentation in form (R13, R20). -/
def State.decidePresentation (s : State) (p : Presentation) (number : Nat) : State :=
  if s.vesselAccepted p.vessel = false then
    (if s.isRepeat p then s else s.reportCard .foreignCard p).giveVerdict p number (plainVerdict .foreign)
  else if p.part.filtersRepeats && s.isRepeat p then
    s.takeVerdict p.station number false (plainVerdict .repeated)
  else
    match s.card? p.card with
    | none => s.refer p number .lookupMiss
    | some e =>
      match checkEntry s.engine.voyage.time p.issue e with
      | .refused reason event => (s.refuseBy p event).giveVerdict p number (plainVerdict reason)
      | .referred cause => s.refer p number cause
      | .passed =>
        let r := decideJob s p e
        r.1.giveVerdict p number r.2

/-! ## Requests handed on by a Line Controller (R2, R3, R31, R191) -/

/-- A terminal request's verdict goes to the open request alone (R3). -/
def terminalVerdict (st : Station) (number : Nat) (r : State × Reason) : State :=
  r.1.takeVerdict st number false (plainVerdict r.2)

/-- The Card Check Unit takes a request (R1-R3): presentations through the form test and the checks, the
terminal requests to their job unit, and PARAMETER for a request that does not belong to the kind. -/
def State.takeRequest (s : State) (st : Station) (kind : StationKind) (number : Nat) (q : Request) : State :=
  match q with
  | .presentation vessel card issue part =>
    match readPresentation st kind vessel card issue part with
    | none => terminalVerdict st number (s, .parameter)
    | some p => s.decidePresentation p number
  | .complete tag amount =>
    match kind with
    | .bar _ => terminalVerdict st number (decideComplete s st tag amount)
    | _ => terminalVerdict st number (s, .parameter)
  | .cancel tag =>
    match kind with
    | .bar _ => terminalVerdict st number (decideCancel s st tag)
    | _ => terminalVerdict st number (s, .parameter)
  | .passageReport outcome =>
    match kind with
    | .gate => terminalVerdict st number (decideReport s st outcome)
    | _ => terminalVerdict st number (s, .parameter)

/-! ## Answers (R147-R151) -/

/-- The re-decision after an installed entry, combined with the Answer's verdict (R20, R149). -/
def State.redecide (s : State) (r : Referral) (verdict : AnswerVerdict) : State :=
  let p := r.presentation
  match s.card? p.card with
  | none => s.giveVerdict p r.number (plainVerdict .unknown)
  | some e =>
    match checkEntry s.engine.voyage.time p.issue e with
    | .refused reason event => (s.refuseBy p event).giveVerdict p r.number (plainVerdict reason)
    | .referred _ => s.giveVerdict p r.number (plainVerdict .unknown)
    | .passed =>
      match verdict with
      | .refuse => s.giveVerdict p r.number (plainVerdict .unknown)
      | .grant =>
        let d := decideJob s p e
        d.1.giveVerdict p r.number d.2

/-- The decision of an Answer without an installed entry (R150). -/
def State.decideAnswered (s : State) (r : Referral) (verdict : AnswerVerdict) : State :=
  match verdict with
  | .refuse => s.giveVerdict r.presentation r.number (plainVerdict .unknown)
  | .grant =>
    let d := decideGrant s r.presentation
    d.1.giveVerdict r.presentation r.number d.2

/-- The Referral Unit takes an Answer: the state, the execution result and the install result (R147, R151). -/
def takeAnswer (s : State) (tag : Nat) (verdict : AnswerVerdict) (entry : Option CardOffer) :
    State × ExecResult × Option InstallResult :=
  match s.referral? tag with
  | some r =>
    let i := installCard (s.dropReferral tag) (some r.presentation.card) entry
    (if i.2 = some .installed then i.1.redecide r verdict else i.1.decideAnswered r verdict, .ok, i.2)
  | none =>
    let late := s.report { kind := .lateAnswer, card := entry.map CardOffer.number,
                           detail := some (.referralTag tag) }
    let i := installCard late none entry
    (i.1, .late, i.2)

/-- A referral's time runs out (R145). -/
def State.timeoutReferral (s : State) (r : Referral) : State :=
  (s.dropReferral r.tag).fallback r.presentation r.number .timeout

end Sys2Proof.Machine
end

