-- ==== Sys2Proof/Machine/Lines.lean ====
section
/-! DEFINITION. The Line Controllers (02): rounds and Polls, the ends of exchanges, misses and good replies,
open requests and notices, line settings, line test, enrolment and pass-through queues. -/

namespace Sys2Proof.Machine

/-- A station is a Bar. -/
def StationKind.isBar : StationKind → Bool
  | .bar _ => true
  | _ => false

/-- Change a line by a function. -/
def State.modifyLine (s : State) (l : LineNo) (f : Line → Line) : State := s.setLine l (f (s.line l))

/-! ## Rounds (R28, R35, R38) -/

/-- A round whose last exchange has ended ends itself; the round count rises, after 15 to 0, unless a Line
Settings command holds it or the line is in Test (R28, R35). -/
def Line.settleRound (x : Line) : Line :=
  match x.exchange, x.round with
  | none, some [] =>
    { x with round := none,
             roundCount := if x.state = .running ∧ x.wait = none then (x.roundCount + 1) % 16 else x.roundCount }
  | _, _ => x

/-- The exchange on the wire ends. -/
def Line.endExchange (x : Line) : Line := { x with exchange := none }.settleRound

/-- The stations of a round that begins with a count: each Present station and, with the count at 0, each
Absent station (R28). -/
def Line.polledAt (x : Line) (count : Nat) : List Nat :=
  (x.stations.filter fun r => r.state == .present || (r.state == .absent && count == 0)).map StationRec.addr

/-- A new round: on a waiting line the stations with an open request (R35), in Test every station (R38),
else those of the count; empty rounds are passed over up to the recovery polls (R28, log 13). -/
def Line.beginRound (x : Line) : Line :=
  match x.state with
  | .test => { x with round := some (x.stations.map StationRec.addr) }
  | .running =>
    if x.wait.isSome then
      { x with round := some ((x.stations.filter fun r => r.openRequest.isSome).map StationRec.addr) }
    else if (x.polledAt x.roundCount).isEmpty && !(x.polledAt 0).isEmpty then
      { x with round := some (x.polledAt 0), roundCount := 0 }
    else { x with round := some (x.polledAt x.roundCount) }
  | _ => x

/-- Whether an address left in the round is still polled: its slot holds a station and, while a Line
Settings command waits, the station has an open request (R28, R35). -/
def Line.pollable (x : Line) (addr : Nat) : Bool :=
  match lookup StationRec.addr addr x.stations with
  | some r => x.wait.isNone || r.openRequest.isSome
  | none => false

/-- The line with the addresses still to be polled brought up to date, a new round begun where none are
left. -/
def Line.refreshRound (x : Line) : Line :=
  let left := (x.round.getD []).filter x.pollable
  if left.isEmpty then x.beginRound else { x with round := some left }

/-- The content of a Poll, the first case of R26. -/
def StationRec.pollContent (r : StationRec) : PollContent :=
  match r.state, r.notice, r.openRequest, r.queue with
  | .outOfService, _, _, _ => .test
  | .absent, _, _, _ => .plain
  | .present, some n, _, _ => .notice n
  | .present, none, some q, _ =>
    match q.state with
    | .deciding => .pending q.number
    | .ready v => .verdict q.number v
    | .offered v => .verdict q.number v
  | .present, none, none, d :: _ => .through d
  | .present, none, none, [] => .plain

/-- A line carries exchanges while it is Running or in Test (R22). -/
def LineState.carries : LineState → Bool
  | .running => true
  | .test => true
  | _ => false

/-- The next Poll of a line that has no exchange on the wire: Stopped and Settling lines carry none, nor
does a line with nothing to poll (R22, R26, R28). -/
def Line.sendPoll (x : Line) : Line :=
  if x.state.carries ∧ x.exchange = none then
    match x.refreshRound.round with
    | some (a :: rest) =>
      match lookup StationRec.addr a x.stations with
      | some r => { x.refreshRound with
                    round := some rest
                    exchange := some { addr := a, content := r.pollContent, left := x.settings.replyTimeout,
                                       taken := true, noticeLive := true } }
      | none => x
    | _ => x
  else x

/-! ## Line settings taking hold (R35) -/

/-- The new settings take hold and the line enters Settling (R35; log 12). -/
def Line.enterSettling (x : Line) (new : LineSettings) : Line :=
  { x with settings := new, state := .settling, settleLeft := new.settle, wait := none, exchange := none,
           round := none }

/-- When the last open request of a waiting line has closed, the new settings take hold (R35). -/
def Line.settleIfClear (x : Line) : Line :=
  match x.wait with
  | some w => if x.busy then x else x.enterSettling w.settings
  | none => x

/-! ## Misses (R27, R29, R38) -/

/-- A count that stops at 65535 rises by one. -/
def raiseCount (n : Nat) : Nat := min (n + 1) Config.maxWord16

/-- A Present station becomes Absent: Station Absent, then its work is cleared (R29). -/
def State.makeAbsent (s : State) (l : LineNo) (r : StationRec) (misses : Nat) : State :=
  let st : Station := { line := l, addr := r.addr }
  let s := s.setStation l { r with misses := misses, state := .absent, openRequest := none, notice := none }
  let s := s.report { kind := .stationAbsent, station := some st, detail := some (.missCount misses) }
  let s := s.dropStationReferral st
  let s := if r.kind.isGate then s.abandonPassage st .abandonedAbsent else s
  s.modifyLine l Line.settleIfClear

/-- A miss of a station (R27, R29); in Test an echo that failed (R38). -/
def State.missStation (s : State) (l : LineNo) (r : StationRec) : State :=
  match r.state with
  | .outOfService => s.setStation l { r with echoFailed := raiseCount r.echoFailed }
  | .absent => s
  | .present =>
    if s.engine.profile.missLimit ≤ r.misses + 1 then s.makeAbsent l r (r.misses + 1)
    else s.setStation l { r with misses := r.misses + 1 }

/-- The exchange on a line ends as a miss; of a station removed meanwhile nothing is taken (R28). -/
def State.endInMiss (s : State) (l : LineNo) (x : Exchange) : State :=
  let s := s.modifyLine l Line.endExchange
  if x.taken then
    match s.station? { line := l, addr := x.addr } with
    | some r => s.missStation l r
    | none => s
  else s

/-- No good Reply came to the exchange on a line (R27). -/
def State.missOn (s : State) (l : LineNo) : State :=
  match (s.line l).exchange with
  | some x => s.endInMiss l x
  | none => s

/-! ## Good replies (R27, R30, R32, R33, R41) -/

/-- What a good reply does to the record of the polled station: the miss count returns to 0, an Absent
station is Present, the Poll's notice or pass-through frame is delivered, and a verdict carried is
Offered. -/
def StationRec.afterReply (r : StationRec) (x : Exchange) : StationRec :=
  let r' : StationRec := { r with misses := 0, state := .present }
  match x.content with
  | .notice _ => if x.noticeLive then { r' with notice := none } else r'
  | .through _ => { r' with queue := r.queue.drop 1 }
  | .verdict _ _ =>
    match r.openRequest with
    | some q =>
      match q.state with
      | .ready v => { r' with openRequest := some { q with state := .offered v } }
      | _ => r'
    | none => r'
  | _ => r'

/-- A good reply from a station on a Running line: its record, and Station Present for one that was
Absent (R30). -/
def State.goodReply (s : State) (l : LineNo) (r : StationRec) (x : Exchange) : State :=
  let s := s.setStation l (r.afterReply x)
  if r.state = .absent then
    s.report { kind := .stationPresent, station := some { line := l, addr := r.addr } }
  else s

/-- The sensor word of a good reply is read from Lock stations alone (R45, R191). -/
def State.takeLockWord (s : State) (st : Station) (kind : StationKind) (word : Sensors) : State :=
  if kind = .lock then s.takeWord st word else s

/-- A Reply to the exchange on its line. It is not taken where the line has no exchange or the polled
station has been removed (R27, R28); it is a miss where it comes from another address or the station may
not send it (`allowed`); on a line in Test `inTest` takes it (R38), else `good` (R27). -/
def State.takeReply (s : State) (st : Station) (allowed : StationRec → Bool)
    (inTest : State → StationRec → State) (good : State → StationRec → Exchange → State) : State :=
  match (s.line st.line).exchange with
  | none => s
  | some x =>
    if x.taken = false ∨ x.addr ≠ st.addr then s.endInMiss st.line x
    else
      match s.station? st with
      | none => s.endInMiss st.line x
      | some r =>
        if r.state = .outOfService then inTest (s.modifyLine st.line Line.endExchange) r
        else if allowed r then
          let s := s.modifyLine st.line Line.endExchange
          good (s.goodReply st.line r x) (r.afterReply x) x
        else s.endInMiss st.line x

/-- An Idle, Acknowledge or Through-up Reply in Test is an echo that failed (R38). -/
def failEcho (l : LineNo) (s : State) (r : StationRec) : State :=
  s.setStation l { r with echoFailed := raiseCount r.echoFailed }

/-- Every kind of station may send the Reply. -/
def anyStation (_ : StationRec) : Bool := true

/-- An Idle Reply (R27). -/
def State.takeIdle (s : State) (st : Station) (word : Sensors) : State :=
  s.takeReply st anyStation (failEcho st.line) fun s r _ => s.takeLockWord st r.kind word

/-- A Request on a Running line: turned away while a request is open, else opened and handed to the Card
Check Unit (R31, R33). -/
def State.openRequest (s : State) (st : Station) (r : StationRec) (number : Nat) (q : Request) : State :=
  match r.openRequest with
  | some _ => s.oweNotice st { reason := .busy, number := some number }
  | none =>
    (s.setStation st.line { r with openRequest := some { number := number, request := q, state := .deciding } }).takeRequest
      st r.kind number q

/-- A Request Reply (R31, R33, R38, R45). -/
def State.takeRequestReply (s : State) (st : Station) (word : Sensors) (number : Nat) (q : Request) : State :=
  s.takeReply st anyStation
    (fun s r => (failEcho st.line s r).oweNotice st { reason := .outOfService, number := some number })
    fun s r _ => (s.takeLockWord st r.kind word).openRequest st r number q

/-- Whether an Acknowledge closes the open request: the Poll carried the verdict, and the number is the
open request's (R32). -/
def closes (r : StationRec) (x : Exchange) (number : Nat) : Bool :=
  match x.content, r.openRequest with
  | .verdict _ _, some q => q.number == number
  | _, _ => false

/-- An Acknowledge Reply (R32). -/
def State.takeAcknowledge (s : State) (st : Station) (word : Sensors) (number : Nat) : State :=
  s.takeReply st anyStation (failEcho st.line) fun s r x =>
    let s := s.takeLockWord st r.kind word
    if closes r x number then
      (s.setStation st.line { r with openRequest := none }).modifyLine st.line Line.settleIfClear
    else s

/-- A Through-up Reply is allowed from a Through station only, with 1 to 64 bytes (R27, R41; log 31). -/
def mayThroughUp (data : List Byte) (r : StationRec) : Bool :=
  r.kind == .through && inRange 1 Config.maxThrough data.length

/-- A Through-up Reply (R41). -/
def State.takeThroughUp (s : State) (st : Station) (data : List Byte) : State :=
  s.takeReply st (mayThroughUp data) (failEcho st.line) fun s _ _ =>
    if s.trunk.up then s.send (.throughUp st data)
    else s.oweNotice st { reason := .outOfService, number := none }

/-- The sixteen bytes of the test pattern (R38). -/
def testPattern : List Byte :=
  [0x00#8, 0xFF#8, 0x55#8, 0xAA#8, 0x0F#8, 0xF0#8, 0x33#8, 0xCC#8,
   0x01#8, 0x02#8, 0x04#8, 0x08#8, 0x10#8, 0x20#8, 0x40#8, 0x80#8]

/-- An Echo Reply: good in Test with the pattern unchanged, else failed; a miss outside Test (R27, R38). -/
def State.takeEcho (s : State) (st : Station) (data : List Byte) : State :=
  s.takeReply st (fun _ => false)
    (fun s r => if data = testPattern then s.setStation st.line { r with echoGood := raiseCount r.echoGood }
      else failEcho st.line s r)
    fun s _ _ => s

/-! ## Enrolment (R24, R25) -/

/-- A new station record (R24). -/
def newStation (addr : Nat) (kind : StationKind) (state : StationState) : StationRec :=
  { addr := addr, kind := kind, state := state, misses := 0, openRequest := none, notice := none,
    repeatRecord := none, queue := [], echoGood := 0, echoFailed := 0 }

/-- The slot takes a new record; a Stopped line goes to Running (R24). -/
def Line.enroll (x : Line) (addr : Nat) (kind : StationKind) : Line :=
  { x with
    stations := put StationRec.addr
      (newStation addr kind (if x.state = .test then .outOfService else .present)) x.stations
    state := if x.state = .stopped then .running else x.state
    roundCount := if x.state = .stopped then 0 else x.roundCount }

/-- Station Enroll (R24, R185). -/
def enrollStation (s : State) (line addr kind : Nat) (kindData : Option Nat) : State × ExecResult :=
  match readStation line addr, readStationKind kind kindData with
  | some st, some k =>
    if (s.station? st).isSome then (s, .inUse)
    else if k.isGate ∧ s.gateCount ≥ Config.maxGates then (s, .full)
    else (s.modifyLine st.line fun x => x.enroll st.addr k, .ok)
  | _, _ => (s, .parameter)

/-- An exchange with a removed station is no longer taken (R28). -/
def Exchange.forget (e : Exchange) (addr : Nat) : Exchange :=
  if e.addr = addr then { e with taken := false } else e

/-- The slot is emptied: its address leaves the round, and a Reply still on the wire is not taken
(R25, R28). -/
def Line.remove (x : Line) (addr : Nat) : Line :=
  Line.settleRound { x with
    stations := erase StationRec.addr addr x.stations
    round := x.round.map fun (l : List Nat) => l.filter fun a => a != addr
    exchange := x.exchange.map fun (e : Exchange) => e.forget addr }

/-- Station Remove (R25, R185). -/
def removeStation (s : State) (line addr : Nat) : State × ExecResult :=
  match readStation line addr with
  | none => (s, .parameter)
  | some st =>
    match s.station? st with
    | none => (s, .notFound)
    | some r =>
      if r.openRequest.isSome then (s, .inUse)
      else if r.kind.isGate ∧ (s.passageAt? st).isSome then (s, .inUse)
      else if r.kind = .lock ∧ (s.cabinAt? st).isSome then (s, .inUse)
      else
        let s := s.modifyLine st.line fun x => x.remove st.addr
        (if r.kind.isBar then s.detachHolds st else s, .ok)

/-! ## Line settings and line test (R35-R39) -/

/-- Line Settings (R35): the state, and the result where the command ends at once (log 21).
DESIGN CHOICE log 37: a value out of range is PARAMETER before a line in Test is BUSY. -/
def setLineSettings (s : State) (line speed replyTimeout settle : Nat) : State × Option ExecResult :=
  match readLine line, readLineSettings speed replyTimeout settle with
  | some l, some new =>
    match (s.line l).state with
    | .test => (s, some .busy)
    | .settling => (s, some .busy)
    | .stopped => (s.modifyLine l fun x => { x with settings := new }, some .ok)
    | .running =>
      if (s.line l).busy then
        (s.modifyLine l fun x =>
          { x with wait := some { settings := new, left := s.engine.profile.loadGapTimeout * Config.second } }, none)
      else (s.modifyLine l fun x => x.enterSettling new, none)
  | _, _ => (s, some .parameter)

/-- A station at the start of a line test (R37). -/
def StationRec.enterTest (r : StationRec) : StationRec :=
  { r with state := .outOfService, misses := 0, notice := none, echoGood := 0, echoFailed := 0 }

/-- The line enters Test (R37; log 12). -/
def Line.enterTest (x : Line) : Line :=
  { x with state := .test, stations := x.stations.map StationRec.enterTest, exchange := none, round := none }

/-- Line Test Start (R37). -/
def startLineTest (s : State) (line : Nat) : State × ExecResult :=
  match readLine line with
  | none => (s, .parameter)
  | some l =>
    match (s.line l).state with
    | .stopped => (s, .parameter)
    | .test => (s, .parameter)
    | _ => if (s.line l).busy then (s, .busy) else (s.modifyLine l Line.enterTest, .ok)

/-- A station at the end of a line test (R39). -/
def StationRec.leaveTest (r : StationRec) : StationRec := { r with state := .present, misses := 0 }

/-- The line leaves Test for Running with round count 0 (R39; log 12). -/
def Line.leaveTest (x : Line) : Line :=
  { x with state := .running, stations := x.stations.map StationRec.leaveTest, exchange := none, round := none,
           roundCount := 0 }

/-- Line Test End (R39), with the echo counts of the stations in address order. -/
def endLineTest (s : State) (line : Nat) : State × ExecResult × StatusData :=
  match readLine line with
  | none => (s, .parameter, .none)
  | some l =>
    if (s.line l).state = .test then
      (s.modifyLine l Line.leaveTest, .ok,
        .echoes ((s.line l).stations.map fun r => (r.addr, r.echoGood, r.echoFailed)))
    else (s, .parameter, .none)

/-! ## Pass-through queues (R40) -/

/-- A Through-down frame for a station (R40, R155). -/
def queueThrough (s : State) (line addr : Nat) (data : List Byte) : State × ExecResult :=
  match readStation line addr with
  | none => (s, .parameter)
  | some st =>
    match s.station? st with
    | none => (s, .parameter)
    | some r =>
      if r.kind ≠ .through then (s, .parameter)
      else if inRange 1 Config.maxThrough data.length = false then (s, .parameter)
      else if r.queue.length ≥ Config.maxQueue then (s, .full)
      else (s.setStation st.line { r with queue := r.queue ++ [data] }, .ok)

/-! ## Lines after a warm restart (R42) -/

/-- A station after a warm restart. -/
def StationRec.afterWarm (r : StationRec) : StationRec :=
  { r with state := .present, misses := 0, openRequest := none, notice := none, repeatRecord := none,
           queue := [], echoGood := 0, echoFailed := 0 }

/-- A line after a warm restart. -/
def Line.afterWarm (x : Line) : Line :=
  { x with
    state := if x.state = .stopped ∧ x.stations = [] then .stopped else .running
    stations := x.stations.map StationRec.afterWarm
    exchange := none, round := none, roundCount := 0, wait := none, settleLeft := 0 }

end Sys2Proof.Machine
end

