-- ==== Sys2Proof/Machine/WireIn.lean ====
section
/-! DEFINITION. Reading bytes (R176-R178, R189-R191): the check word, the bodies of Commands, Data entries,
Answers and Through-down frames, the classing of a trunk frame, and the Reply of a reader line. Where R190
leaves a coding open, log 20 names the model's choice. -/

namespace Sys2Proof.Machine

/-! ## Fields -/

/-- The rest of the bytes after a field has been read; none where they do not hold the field. -/
abbrev Reader (α : Type) := List Byte → Option (α × List Byte)

/-- A number of a fixed count of bytes, most significant byte first (10, section 10.6). -/
def takeNat : Nat → Reader Nat
  | 0, bs => some (0, bs)
  | _ + 1, [] => none
  | n + 1, b :: bs =>
    match takeNat n bs with
    | some (v, rest) => some (b.toNat * 256 ^ n + v, rest)
    | none => none

/-- A field, then what the rest depends on. -/
def takeThen {α β : Type} (r : Reader α) (f : α → Reader β) : Reader β := fun bs =>
  match r bs with
  | some (x, rest) => f x rest
  | none => none

/-- A value that takes no byte. -/
def takePure {α : Type} (x : α) : Reader α := fun bs => some (x, bs)

/-- No value: the body is not of its kind's form. -/
def takeFail {α : Type} : Reader α := fun _ => none

/-- An optional field: a byte 1 or 0, then the field when present (R190). -/
def takeOpt {α : Type} (r : Reader α) : Reader (Option α) :=
  takeThen (takeNat 1) fun p =>
    if p = 1 then takeThen r fun x => takePure (some x)
    else if p = 0 then takePure none
    else takeFail

/-- A fixed count of fields of one form. -/
def takeMany {α : Type} (r : Reader α) : Nat → Reader (List α)
  | 0 => takePure []
  | n + 1 => takeThen r fun x => takeThen (takeMany r n) fun xs => takePure (x :: xs)

/-- A list preceded by the count of its items in one byte (R190). -/
def takeList {α : Type} (r : Reader α) : Reader (List α) := takeThen (takeNat 1) fun n => takeMany r n

/-- Two fields. -/
def takePair {α β : Type} (r : Reader α) (q : Reader β) : Reader (α × β) :=
  takeThen r fun x => takeThen q fun y => takePure (x, y)

/-- A whole body: nothing may be left over (R178 case 4). -/
def wholeBody {α : Type} (r : Reader α) (bs : List Byte) : Option α :=
  match r bs with
  | some (x, []) => some x
  | _ => none

/-- A voyage date and time: seven bytes (R190). -/
def takeTime : Reader DateTime :=
  takeThen (takeNat 2) fun y => takeThen (takeNat 1) fun mo => takeThen (takeNat 1) fun d =>
  takeThen (takeNat 1) fun h => takeThen (takeNat 1) fun mi => takeThen (takeNat 1) fun s =>
    takePure { year := y, month := mo, day := d, hour := h, minute := mi, second := s }

/-! ## Entries of Data frames and Answers -/

/-- A Card Merge entry (R163). DESIGN CHOICE log 20: the validity window is one optional field. -/
def takeCard : Reader CardOffer :=
  takeThen (takeNat 3) fun number => takeThen (takeNat 1) fun issue => takeThen (takeNat 1) fun cls =>
  takeThen (takeNat 1) fun status => takeThen (takeOpt (takeNat 3)) fun account =>
  takeThen (takeList (takeNat 2)) fun cabins => takeThen (takeList (takeNat 1)) fun zones =>
  takeThen (takeOpt (takePair takeTime takeTime)) fun window => takeThen (takeNat 1) fun musterStation =>
  takeThen (takeNat 1) fun search => takeThen (takeOpt (takeNat 1)) fun presence =>
    takePure { number := number, issue := issue, cls := cls, status := status, account := account,
               cabins := cabins, zones := zones, window := window, musterStation := musterStation,
               search := search, presence := presence }

/-- An Account Merge entry (R165). -/
def takeAccount : Reader AccountOffer :=
  takeThen (takeNat 3) fun number => takeThen (takeNat 1) fun state => takeThen (takeNat 4) fun voyageCap =>
  takeThen (takeNat 4) fun dailyCap => takeThen (takeOpt (takeNat 4)) fun voyageSpent =>
  takeThen (takeOpt (takeNat 4)) fun dailySpent =>
    takePure { number := number, state := state, voyageCap := voyageCap, dailyCap := dailyCap,
               voyageSpent := voyageSpent, dailySpent := dailySpent }

/-- A Cabin Merge entry (R166). -/
def takeCabin : Reader CabinOffer :=
  takeThen (takeNat 2) fun number => takeThen (takeNat 1) fun zone => takeThen (takeNat 1) fun pattern =>
  takeThen (takeNat 1) fun mask => takeThen (takeNat 1) fun tamper =>
  takeThen (takeOpt (takePair (takeNat 1) (takeNat 1))) fun lock => takeThen (takeOpt (takeNat 1)) fun openMask =>
    takePure { number := number, zone := zone, pattern := pattern, mask := mask, tamper := tamper,
               lock := lock, openMask := openMask }

/-- A Data entry in the form of a session's table and mode (R161). -/
def takeEntry : TableName → LoadMode → Reader DataEntry
  | .card, .merge => takeThen takeCard fun o => takePure (.cardMerge o)
  | .card, .purge => takeThen (takeNat 3) fun n => takePure (.cardPurge n)
  | .account, .merge => takeThen takeAccount fun o => takePure (.accountMerge o)
  | .account, .purge => takeThen (takeNat 3) fun n => takePure (.accountPurge n)
  | .cabin, .merge => takeThen takeCabin fun o => takePure (.cabinMerge o)
  | .cabin, .purge => takeThen (takeNat 2) fun n => takePure (.cabinPurge n)

/-- The entries of a Data frame: a count of 1 to 16 and that many entries (R161 case 2). -/
def readEntries (table : TableName) (mode : LoadMode) (body : List Byte) : Option (List DataEntry) :=
  match wholeBody (takeList (takeEntry table mode)) body with
  | some es => if inRange 1 Config.maxDataEntries es.length then some es else none
  | none => none

/-! ## Bodies of Commands (R182, R190) -/

/-- The body of Profile Set (R194). -/
def takeProfile : Reader ProfileOffer :=
  takeThen (takeNat 1) fun openWindow => takeThen (takeNat 1) fun entryGrace =>
  takeThen (takeNat 2) fun holdLifetime => takeThen (takeNat 1) fun terminalHoldLimit =>
  takeThen (takeNat 1) fun confirmTimeout => takeThen (takeNat 1) fun referralTimeout =>
  takeThen (takeNat 1) fun repeatWindow => takeThen (takeNat 1) fun missLimit =>
  takeThen (takeNat 1) fun loadGapTimeout => takeThen (takeNat 1) fun dayBoundaryHour =>
  takeThen (takeNat 1) fun countMode => takeThen (takeNat 1) fun openFallback =>
  takeThen (takeNat 1) fun passageFallback =>
    takePure { openWindow := openWindow, entryGrace := entryGrace, holdLifetime := holdLifetime,
               terminalHoldLimit := terminalHoldLimit, confirmTimeout := confirmTimeout,
               referralTimeout := referralTimeout, repeatWindow := repeatWindow, missLimit := missLimit,
               loadGapTimeout := loadGapTimeout, dayBoundaryHour := dayBoundaryHour, countMode := countMode,
               openFallback := openFallback, passageFallback := passageFallback }

/-- One number. -/
def take1 {β : Type} (w : Nat) (f : Nat → β) : Reader β := takeThen (takeNat w) fun a => takePure (f a)

/-- Two numbers. -/
def take2 {β : Type} (w v : Nat) (f : Nat → Nat → β) : Reader β :=
  takeThen (takeNat w) fun a => take1 v (f a)

/-- Three numbers. -/
def take3 {β : Type} (w v u : Nat) (f : Nat → Nat → Nat → β) : Reader β :=
  takeThen (takeNat w) fun a => take2 v u (f a)

/-- Four numbers. -/
def take4 {β : Type} (w v u t : Nat) (f : Nat → Nat → Nat → Nat → β) : Reader β :=
  takeThen (takeNat w) fun a => take3 v u t (f a)

/-- The bytes of a key of a table; three where the table is not among those named (log 20). -/
def keyWidth (table : Nat) : Nat := if table = 3 then 2 else 3

/-- The body of a Command of a kind 1 to 34, in the order of R182. DESIGN CHOICE log 20: a group of fixed size, the four
slots of Vessel Codes Set and the 28 values of Event Kinds, has no count before it, and the watch part of Cabin Write
and the range of Protection Set are one optional field each. -/
def takeCommand (tag : Nat) : Nat → Reader Instr
  | 1 => takePure (.statusRead tag)
  | 2 => takeThen takeTime fun t => takePure (.clockSet tag t)
  | 3 => takeThen takeProfile fun p => takePure (.profileSet tag p)
  | 4 => takePure (.profileRead tag)
  | 5 => take4 1 1 1 2 (.lineSettings tag)
  | 6 => take1 1 (.lineTestStart tag)
  | 7 => take1 1 (.lineTestEnd tag)
  | 8 => takeThen (take3 1 1 1 fun a b c => (a, b, c)) fun x =>
      takeThen (takeOpt (takeNat 1)) fun d => takePure (.stationEnroll tag x.1 x.2.1 x.2.2 d)
  | 9 => take2 1 1 (.stationRemove tag)
  | 10 => take4 2 2 2 2 (.vesselCodesSet tag)
  | 11 => take2 1 1 (.loadOpen tag)
  | 12 => takePure (.loadClose tag)
  | 13 => takeThen (takeNat 1) fun t => take1 (keyWidth t) (.entryRead tag t)
  | 14 => takeThen (takeNat 3) fun a => takeThen (takeOpt (takeNat 1)) fun st =>
      takeThen (takeOpt (takeNat 4)) fun v => takeThen (takeOpt (takeNat 4)) fun d =>
        takePure (.accountWrite tag a st v d)
  | 15 => takeThen (takeNat 2) fun c => takeThen (takeOpt (takeNat 1)) fun lo =>
      takeThen (takeOpt (takePair (takeNat 1) (takeNat 1))) fun w => takeThen (takeOpt (takeNat 1)) fun ta =>
        takePure (.cabinWrite tag c lo w ta)
  | 16 => take3 3 1 4 (.presenceSet tag)
  | 17 => takeThen takeTime fun t => takePure (.portCallOpen tag t)
  | 18 => takePure (.portCallClose tag)
  | 19 => take2 4 1 (.journalRead tag)
  | 20 => take1 4 (.journalRelease tag)
  | 21 => takePure (.counterRead tag)
  | 22 => take1 3 (.ashoreRead tag)
  | 23 => take1 1 (.musterStart tag)
  | 24 => takePure (.musterEnd tag)
  | 25 => takePure (.musterRollRead tag)
  | 26 => take1 3 (.unaccountedRead tag)
  | 27 => take2 1 1 (.alarmConfig tag)
  | 28 => takePure (.alarmStatus tag)
  | 29 => take1 1 (.eventRead tag)
  | 30 => takeThen (takeMany (takeNat 1) 28) fun vs => takePure (.eventKinds tag vs)
  | 31 => takeThen (take3 1 1 1 fun a b c => (a, b, c)) fun x =>
      takeThen (takeOpt (takePair (takeNat 3) (takeNat 3))) fun r =>
        takePure (.protectionSet tag x.1 x.2.1 x.2.2 r)
  | 32 => takePure (.protectionGet tag)
  | 33 => takePure (.protectionRelease tag)
  | 34 => take1 1 (.restart tag)
  | _ => takeFail

/-- The verdict of an Answer: Grant 1, Refuse 2 (R190). -/
def takeVerdictOf : Reader AnswerVerdict :=
  takeThen (takeNat 1) fun v =>
    if v = 1 then takePure .grant else if v = 2 then takePure .refuse else takeFail

/-- The body of an Answer (R147, R190). DESIGN CHOICE log 20: the presence of its card entry stays the optional field
of a Card Merge entry. -/
def takeAnswerBody (tag : Nat) : Reader Instr :=
  takeThen takeVerdictOf fun v => takeThen (takeOpt takeCard) fun e => takePure (.answerFrame tag v e)

/-- The body of a Through-down frame: the station, then the data, which is the rest (R190). -/
def readThroughDown (tag : Nat) (body : List Byte) : Option Instr :=
  match take2 1 1 (fun l a => (l, a)) body with
  | some (st, data) => some (.throughDown tag st.1 st.2 data)
  | none => none

/-! ## Trunk frames (R176-R178) -/

/-- The sum of bytes as numbers (R177). -/
def byteSum (bs : List Byte) : Nat := (bs.map BitVec.toNat).sum

/-- The check word over bytes: the two's complement, in 16 bits, of their sum (R177). -/
def checkWord (bs : List Byte) : Nat := (65536 - byteSum bs % 65536) % 65536

/-- A received check word is correct when it and the sum are 0 modulo 65536 (R177). -/
def checkHolds (bs : List Byte) (check : Nat) : Bool := (byteSum bs + check) % 65536 == 0

/-- A body read, or MALFORMED (R178 case 4). -/
def orMalformed (cls kind tag : Nat) : Option Instr → Instr
  | some i => i
  | none => .malformed cls kind tag

/-- What a frame with a correct check word is, by its class, kind and body (R178). -/
def readFrame (cls kind tag : Nat) (body : List Byte) : Instr :=
  if cls = 3 ∨ cls = 4 ∨ cls = 7 then .outboundClassDiscarded cls kind tag
  else if cls = 1 then
    if 1 ≤ kind ∧ kind ≤ 34 then orMalformed cls kind tag (wholeBody (takeCommand tag kind) body)
    else .unknownKind cls kind tag
  else if cls = 2 ∧ kind = 0 then .dataFrame tag body
  else if cls = 5 ∧ kind = 0 then orMalformed cls kind tag (wholeBody (takeAnswerBody tag) body)
  else if cls = 6 ∧ kind = 0 then orMalformed cls kind tag (readThroughDown tag body)
  else .unknownKind cls kind tag

/-- The start marker of a trunk frame (R189). -/
def startMarker : Byte := 0xC3#8

/-- The bytes from the first start marker on. -/
def seekMarker : List Byte → List Byte
  | [] => []
  | b :: bs => if b = startMarker then b :: bs else seekMarker bs

/-- How the receiver stands with the bytes it holds (R176). -/
inductive Framing where
  | waiting
  | badLength
  | partialFrame
  | complete (cls kind tag : Nat) (body : List Byte) (good : Bool) (rest : List Byte)
  deriving DecidableEq, Repr

/-- A Length that is readable (R176). -/
def readableLength (n : Nat) : Bool := inRange 4 1028 n

/-- The frame after its Length: class, kind, tag, body and check word. -/
def framingOf (lengthBytes : List Byte) (n : Nat) (rest : List Byte) : Framing :=
  if rest.length < n + 2 then .partialFrame
  else
    let frame := rest.take n
    match take3 1 1 2 (fun c k t => (c, k, t)) frame, takeNat 2 (rest.drop n) with
    | some ((c, k, t), body), some (check, after) =>
      .complete c k t body (checkHolds (lengthBytes ++ frame) check) after
    | _, _ => .partialFrame

/-- The standing of bytes that begin with a start marker (R176; log 15). -/
def framing (silence : Nat) : List Byte → Framing
  | [] => .waiting
  | _ :: bs =>
    match bs with
    | h :: l :: rest =>
      if readableLength (h.toNat * 256 + l.toNat) then
        framingOf [h, l] (h.toNat * 256 + l.toNat) rest
      else .badLength
    | _ => if Config.frameGap < silence then .badLength else .waiting

/-! ## Replies of a reader line (R191) -/

/-- The request record of a Request Reply (R191). DESIGN CHOICE log 35: a type outside 1 to 4 or a part code outside
0 to 3, for which R191 gives no length, makes the Reply a bad one, which is a miss. -/
def takeRequestRecord : Reader Request :=
  takeThen (takeNat 1) fun type =>
    if type = 1 then
      takeThen (takeNat 2) fun vessel => takeThen (takeNat 3) fun card => takeThen (takeNat 1) fun issue =>
      takeThen (takeNat 1) fun part =>
        if part = 0 then takePure (.presentation vessel card issue .none)
        else if part = 1 then take1 1 fun g => .presentation vessel card issue (.gesture g)
        else if part = 2 then take3 3 1 2 fun a g r => .presentation vessel card issue (.sale a g r)
        else if part = 3 then take1 1 fun d => .presentation vessel card issue (.direction d)
        else takeFail
    else if type = 2 then take2 2 3 .complete
    else if type = 3 then take1 2 .cancel
    else if type = 4 then take1 1 .passageReport
    else takeFail

/-- The sensor word in a sensor byte: its four lowest bits (R191; log 29). -/
def sensorsOf (n : Nat) : Sensors :=
  { leafClosed := n % 2 == 1, boltThrown := n / 2 % 2 == 1, privacyKnob := n / 4 % 2 == 1,
    tamperCover := n / 8 % 2 == 1 }

/-- The Reply of a kind and content (R191). -/
def replyOf (st : Station) (kind number sensor : Nat) (content : List Byte) : Instr :=
  if kind = 16 then (if content = [] then .idle st (sensorsOf sensor) else .badReply st.line)
  else if kind = 17 then
    match wholeBody takeRequestRecord content with
    | some q => .request st (sensorsOf sensor) number q
    | none => .badReply st.line
  else if kind = 18 then
    if content = [] then .acknowledge st (sensorsOf sensor) number else .badReply st.line
  else if kind = 19 then
    if inRange 1 Config.maxThrough content.length then .throughUp st content else .badReply st.line
  else if kind = 20 then (if content.length = 16 then .echo st content else .badReply st.line)
  else .badReply st.line

/-- The bytes of a Reply on a line, read (R191): a Reply that is out of form or has a wrong check word is a
bad Reply. -/
def readReply (line : LineNo) (bs : List Byte) : Instr :=
  match takeThen (take4 1 1 1 1 fun a k n x => (a, k, n, x)) (fun h => take1 1 fun len => (h, len)) bs with
  | some (((addr, kind, number, sensor), len), rest) =>
    match takeNat 2 (rest.drop len) with
    | some (check, []) =>
      if len ≤ Config.maxThrough ∧ checkHolds (bs.take (5 + len)) check then
        replyOf { line := line, addr := addr } kind number sensor (rest.take len)
      else .badReply line
    | _ => .badReply line
  | none => .badReply line

end Sys2Proof.Machine
end

