-- ==== Sys2Proof/Machine/Trunk.lean ====
section
/-! DEFINITION. The Trunk Port (08, 10): frames taken, the one-command discipline, the loss of the trunk, and
the meanings of the frames that are not Commands and of the carrier's rows. -/

namespace Sys2Proof.Machine

/-- The answer of a meaning. -/
abbrev Result := Host.Outcome State Fault Refusal

/-! ## Frames taken (R153, R176, R178, R179) -/

/-- The trunk comes Up, with Trunk Up (R153). -/
def State.trunkUp (s : State) : State :=
  (s.setTrunk { s.trunk with up := true }).report { kind := .trunkUp }

/-- A frame with a correct check word: received while main power is on and carrier is present, it first
brings a Down trunk Up (R153, R176; log 16). -/
def State.receive (s : State) (f : State → State) : State :=
  if s.power.mainOn ∧ s.trunk.carrier then f (if s.trunk.up then s else s.trunkUp) else s

/-- Hand a Status of a frame that is not ACCEPTED: it carries no execution result (R179). -/
def State.reject (s : State) (cls kind tag : Nat) (reception : Reception) : State :=
  s.send (.status { cls := cls, kind := kind, tag := tag, reception := reception, result := none, data := .none })

/-! ## One command at a time (R180) -/

/-- The Command Engine becomes Executing, or Idle. -/
def State.setEngineState (s : State) (e : EngineState) : State := s.setEngine { s.engine with state := e }

/-- A Command or Data frame handed to the Command Engine: BUSY while it is Executing, else taken (R180). DESIGN CHOICE
log 36: so is a Cabin Write between two entries of a Data frame, though R162 names it among the claims taken there. -/
def State.engineFrame (s : State) (cls kind tag : Nat) (f : State → State) : State :=
  s.receive fun s =>
    match s.engine.state with
    | .idle => f s
    | _ => s.answer cls kind tag .busy .none

/-- A Command that takes effect in the event in which it is taken: the Command Engine is Idle again when
its Status is handed, in the same event (R180). -/
def State.command (s : State) (kind tag : Nat) (f : State → State × ExecResult × StatusData) : State :=
  s.engineFrame 1 kind tag fun s =>
    let r := f s
    r.1.answer 1 kind tag r.2.1 r.2.2

/-- A Command in progress ends with its Status, and the Command Engine is Idle (R180). -/
def State.finishCommand (s : State) (result : ExecResult) : State :=
  match s.engine.state with
  | .executing kind tag => (s.setEngineState .idle).answer 1 kind tag result .none
  | _ => s

/-- A result without data. -/
def bare (r : State × ExecResult) : State × ExecResult × StatusData := (r.1, r.2, .none)

/-! ## Data frames (R161, R162) -/

/-- The mode's permission (R162 test 1). -/
def Protection.allows (p : Protection) : LoadMode → Bool
  | .merge => p.load
  | .purge => p.purge

/-- The owner of the table settles an entry (R162 test 2). -/
def offerEntry (s : State) : DataEntry → State × ExecResult
  | .cardMerge o => offerCard s o
  | .cardPurge n => purgeCard s n
  | .accountMerge o => offerAccount s o
  | .accountPurge n => purgeAccount s n
  | .cabinMerge o => offerCabin s o
  | .cabinPurge n => purgeCabin s n

/-- An entry is settled: the permission as it stands, then the owner (R162). -/
def settleEntry (s : State) (mode : LoadMode) (e : DataEntry) : State × ExecResult :=
  if s.engine.protection.allows mode then offerEntry s e else (s, .protect)

/-- The session after a frame: totals that stop at 4,294,967,295, and the remaining gap set again (R159,
R161). -/
def Session.after (x : Session) (results : List ExecResult) (gapTimeout : Nat) : Session :=
  { x with
    applied := min (x.applied + (results.filter fun r => r == .ok).length) Config.maxWord32
    refused := min (x.refused + (results.filter fun r => r != .ok).length) Config.maxWord32
    gap := gapTimeout * Config.second }

/-- The last entry has been settled: in the same event the session's totals rise, the remaining gap is set again,
the Status is handed and the Command Engine is Idle (R161, R180). -/
def State.finishData (s : State) (x : Loading) : State :=
  (s.setEngine { s.engine with
    state := .idle
    session := s.engine.session.map fun y => y.after x.results s.engine.profile.loadGapTimeout }).answer
      2 0 x.tag .ok (.entries x.results)

/-- The Data frame being settled, with one more entry settled (R161). -/
def Loading.settled (x : Loading) (es : List DataEntry) (r : ExecResult) : Loading :=
  { x with rest := es, results := x.results ++ [r] }

/-- The next entry of the Data frame being settled, a claim of its own (R161, R162). DESIGN CHOICE log 34: one entry
in the event of the frame, then one in each millisecond, so that the commands queued between two milliseconds are
taken between two entries. -/
def State.settleNext (s : State) : State :=
  match s.engine.state with
  | .loading x =>
    match x.rest with
    | e :: es =>
      let r := settleEntry s x.mode e
      if es = [] then r.1.finishData (x.settled es r.2) else r.1.setEngineState (.loading (x.settled es r.2))
    | [] => s.finishData x
  | _ => s

/-- A Data frame taken by an Idle Command Engine (R161), which is then Executing until the last entry has been
settled (R180). DESIGN CHOICE log 34: when the later entries are settled is left open by R162, R169 and R175. -/
def State.takeData (s : State) (tag : Nat) (body : List Byte) : State :=
  match s.engine.session with
  | none => s.answer 2 0 tag .order .none
  | some x =>
    match readEntries x.table x.mode body with
    | none => s.reject 2 0 tag .malformed
    | some es =>
      (s.setEngineState (.loading { tag := tag, mode := x.mode, rest := es, results := [] })).settleNext

/-- DATA_FRAME (R161, R180). -/
def execDataFrame (tag : Nat) (body : List Byte) (s : State) : Result :=
  .next (s.engineFrame 2 0 tag fun s => s.takeData tag body)

/-! ## Answers and Through-down frames (R147, R155): taken whatever the Command Engine is doing -/

/-- ANSWER_FRAME (R147-R151). -/
def execAnswerFrame (tag : Nat) (verdict : AnswerVerdict) (entry : Option CardOffer) (s : State) : Result :=
  .next (s.receive fun s =>
    let r := takeAnswer s tag verdict entry
    r.1.answer 5 0 tag r.2.1 (.install r.2.2))

/-- THROUGH_DOWN (R40, R155). -/
def execThroughDown (tag line addr : Nat) (data : List Byte) (s : State) : Result :=
  .next (s.receive fun s =>
    let r := queueThrough s line addr data
    r.1.answer 6 0 tag r.2 .none)

/-! ## Frames that no block takes (R176, R178) -/

/-- FRAME_CHECK_FAILED (R176, R179): CHECK while the trunk is Up; else the frame is discarded. -/
def execFrameCheckFailed (cls kind tag : Nat) (s : State) : Result :=
  .next (s.whenOn fun s => if s.trunk.up then s.reject cls kind tag .check else s)

/-- UNKNOWN_KIND (R178 cases 2 and 3). -/
def execUnknownKind (cls kind tag : Nat) (s : State) : Result :=
  .next (s.receive fun s => s.reject cls kind tag .unknownKind)

/-- MALFORMED (R178 case 4). -/
def execMalformed (cls kind tag : Nat) (s : State) : Result :=
  .next (s.receive fun s => s.reject cls kind tag .malformed)

/-- OUTBOUND_CLASS_DISCARDED (R178 case 1): no Status; a correct frame, so it still brings the trunk Up
(R153). -/
def execOutboundClassDiscarded (_cls _kind _tag : Nat) (s : State) : Result :=
  .next (s.receive fun s => s)

/-- The frame whose bytes the receiver holds is discarded: the search for a start marker goes on from the
byte after its own (R176). -/
def TrunkPort.discardFrame (t : TrunkPort) : TrunkPort :=
  { t with received := seekMarker ((seekMarker t.received).drop 1) }

/-- The receiver holds a frame that stands as told. -/
def TrunkPort.stands (t : TrunkPort) : Framing := framing t.silence (seekMarker t.received)

/-- FRAME_GAP_TIMEOUT (R176): a frame with a readable Length, not complete after a gap of more than 50 ms. The receiver
discards it itself in the tick in which the gap grows so long, before any byte can follow (`takeFrames`; log 15). -/
def execFrameGapTimeout (s : State) : Result :=
  .next (s.whenOn fun s =>
    if s.trunk.stands = .partialFrame ∧ Config.frameGap < s.trunk.silence then s.setTrunk s.trunk.discardFrame
    else s)

/-- LENGTH_NOT_READABLE (R176): the frame is discarded, and a Down trunk stays Down. The receiver discards it itself as
its Length arrives (`takeFrames`; log 15). -/
def execLengthNotReadable (s : State) : Result :=
  .next (s.whenOn fun s =>
    if s.trunk.stands = .badLength then s.setTrunk s.trunk.discardFrame else s)

/-! ## The trunk lost (R153, R154, R156) -/

/-- A Through-up frame that is discarded owes its station a notice, where the slot still holds a Through
station (R156). -/
def State.oweLostThrough (s : State) (f : OutFrame) : State :=
  match f with
  | .throughUp st _ =>
    match s.station? st with
    | some r => if r.kind = .through then s.oweNotice st { reason := .outOfService, number := none } else s
    | none => s
  | _ => s

/-- The frames awaiting transmission are discarded, in the order handed. -/
def oweAllLost : List OutFrame → State → State
  | [], s => s
  | f :: fs, s => oweAllLost fs (s.oweLostThrough f)

/-- The change from Up to Down (R153, R154, R156): Trunk Down, the outgoing frames discarded with their
notices, then the fallback of every referral, oldest first. -/
def State.loseTrunk (s : State) : State :=
  let outgoing := s.trunk.outgoing
  let s := s.setTrunk { s.trunk with up := false, received := [], silence := 0, outgoing := [] }
  let s := oweAllLost outgoing (s.report { kind := .trunkDown })
  fallbackAll s.referral.list s

/-- CARRIER_LOST (R153, R154, R176): a frame being received is discarded unfinished; a Down trunk is unchanged. The
bytes held are those of that frame alone: every frame complete before has joined the queue with its last byte
(`State.receiveByte`). DESIGN CHOICE log 15: nothing is searched for inside the discarded frame, since frames are
received while carrier is present. -/
def execCarrierLost (s : State) : Result :=
  let s := s.setTrunk { s.trunk with carrier := false }
  .next (s.whenOn fun s =>
    if s.trunk.up then s.loseTrunk else s.setTrunk { s.trunk with received := [], silence := 0 })

/-- CARRIER_REGAINED (R153): the trunk stays Down until a good frame is received. -/
def execCarrierRegained (s : State) : Result :=
  .next (s.setTrunk { s.trunk with carrier := true })

end Sys2Proof.Machine
end

