-- ==== Sys2Proof/Machine/Restart.lean ====
section
/-! DEFINITION. The two restarts and what brings them (R186-R188): what each block keeps is stated with the
rules it cites. Also the comparisons of the voyage clock (R103, R192, R193). -/

namespace Sys2Proof.Machine

/-! ## The clock compared (R103, R192, R193) -/

/-- The rollover and the all-aboard transition, where they are due; where both are, their order is free
(log 7). -/
def State.compareClock (s : State) (rollover : Bool) : State :=
  if rollover && s.allAboardReached then
    let first := Config.rolloverFirst s.free
    let s := s.setFree (s.free + 1)
    if first then s.rollover.enterLastCall else s.enterLastCall.rollover
  else if rollover then s.rollover
  else if s.allAboardReached then s.enterLastCall
  else s

/-- What a running clock has reached is taken in the event in which it gets there: at the next boundary one rollover,
and the boundary moves a day on (R192), and at the all-aboard time the transition to Last Call (R103). -/
def State.compareRunning (s : State) : State :=
  if s.engine.voyage.boundaryReached then
    (s.setEngine { s.engine with voyage := s.engine.voyage.moveBoundary }).compareClock true
  else s.compareClock false

/-- The next boundary is settled against the clock under an hour; absent while the clock is unset (R192). -/
def VoyageClock.rebound (v : VoyageClock) (hour : Nat) : VoyageClock :=
  { v with boundary := v.time.map (boundaryAfter hour) }

/-- The comparisons of a warm restart: where the clock is at or past the next boundary, one rollover however many
boundaries were passed, and the next boundary recomputed from the clock; else the boundary is kept (R192). -/
def State.compareAtRestart (s : State) : State :=
  if s.engine.voyage.boundaryReached then
    (s.setEngine { s.engine with
      voyage := s.engine.voyage.rebound s.engine.profile.dayBoundaryHour }).compareClock true
  else s.compareClock false

/-! ## The cold start -/

/-- A cold start (R12, R43, R65, R88, R100, R122, R141, R157, R171, R175, R188, R192, R194, R199): every
table, list, queue, setting and the clock in its initial state, the levels taken from the inputs. The
carrier, the timebase and the model's own fields are not settings and stay. -/
def State.coldStart (s : State) (cause : RestartCause) (levels : Levels) : State :=
  { State.cold cause levels with
    timebase := s.timebase
    trunk := { (State.cold cause levels).trunk with carrier := s.trunk.carrier }
    free := s.free
    pending := s.pending }

/-! ## The warm restart -/

/-- A cabin after a warm restart (R64). -/
def Cabin.afterWarm (c : Cabin) : Cabin :=
  { c with
    lockState := if c.lockState = .openWindow then .secured else c.lockState
    windowEnd := none, overrideEnd := none, lastWord := none }

/-- The Command Engine after a warm restart (R175, R188). -/
def CommandEngine.afterWarm (e : CommandEngine) (cause : RestartCause) : CommandEngine :=
  { e with state := .idle, restartOption := none, session := none, lastRestart := { kind := .warm, cause := cause } }

/-- The Trunk Port after either restart (R157). -/
def TrunkPort.afterRestart (t : TrunkPort) : TrunkPort :=
  { t with up := false, received := [], silence := 0, outgoing := [] }

/-- What a warm restart discards without an event: exchanges, requests and notices (R42), windows (R64),
frames and the trunk state (R157), referrals (R157), session and command (R175, R188). -/
def State.discardWork (s : State) (cause : RestartCause) : State :=
  ((((s.setLines (vmap s.lines Line.afterWarm)).setCabins (s.cabins.map Cabin.afterWarm)).setTrunk
      s.trunk.afterRestart).setReferral { s.referral with list := [] }).setEngine (s.engine.afterWarm cause)

/-- The four inputs' levels are taken, and a level mode found met raises its condition, inputs in order
(R141; log 9). -/
def State.takeLevels (s : State) (levels : Levels) : State :=
  let s := s.setMuster { s.muster with
    inputs := Vector.ofFn fun i => { s.muster.inputs[i] with level := levels[i] } }
  (((s.alarmIfHeld 0).alarmIfHeld 1).alarmIfHeld 2).alarmIfHeld 3

/-- A warm restart (R87, R122, R141, R192, R199; log 8): work discarded, holds lapsed oldest first, pending
passages abandoned without an event, the clock compared, the levels taken, then the Restart record. -/
def State.warmRestart (s : State) (cause : RestartCause) (levels : Levels) : State :=
  let abandoned := s.passage.passages.length
  let s := s.discardWork cause
  let s := (lapseAll s.charge.holds s).setPassages []
  (s.compareAtRestart.takeLevels levels).report { kind := .restart, detail := some (.passages abandoned) }

/-! ## The rows -/

/-- The Status of a Restart taken with OK is still awaiting transmission (R186). -/
def awaitsRestartStatus (f : OutFrame) : Bool :=
  match f with
  | .status x => x.cls == 1 && x.kind == 34 && x.result == some .ok
  | _ => false

/-- A Restart is in progress and its Status has been transmitted or discarded (R186). -/
def State.restartDue (s : State) : Option RestartKind :=
  if s.trunk.outgoing.any awaitsRestartStatus then none else s.engine.restartOption

/-- RESTART_BEGIN (R186, R187): the restart of the option carried, cause Command. -/
def execRestartBegin (levels : Levels) (s : State) : Result :=
  .next (s.whenOn fun s =>
    match s.restartDue with
    | some .cold => s.coldStart .command levels
    | some .warm => s.warmRestart .command levels
    | none => s)

/-- MAIN_POWER_LOST (R187): all work ends at once (log 23); the retention supply is valid until it falls low. DESIGN
CHOICE log 38: a supply that fell low while main power was on counts as valid here, though it may still be low. -/
def execMainPowerLost (s : State) : Result :=
  .next (s.whenOn fun s => s.setPower { mainOn := false, retentionValid := true })

/-- RETENTION_SUPPLY_LOW (R187): invalid for the next application of power. DESIGN CHOICE log 38: a fall while main
power is on is no fall since it was last removed, and changes nothing. -/
def execRetentionSupplyLow (s : State) : Result :=
  .next (if s.power.mainOn then s else s.setPower { s.power with retentionValid := false })

/-- Power is on and the timebase starts counting (00, Time; log 23). -/
def State.powerUp (s : State) : State :=
  (s.setPower { mainOn := true, retentionValid := true }).setTimebase 0

/-- MAIN_POWER_APPLIED (R187): cold start or warm restart by the retention supply and the check. -/
def execMainPowerApplied (checkPasses : Bool) (levels : Levels) (s : State) : Result :=
  .next (
    if s.power.mainOn then s
    else if s.power.retentionValid = false then s.powerUp.coldStart .retentionLost levels
    else if checkPasses = false then s.powerUp.coldStart .checkFailed levels
    else s.powerUp.warmRestart .powerReturned levels)

end Sys2Proof.Machine
end

