-- ==== Sys2Proof/Machine/Management.lean ====
section
/-! DEFINITION. The management commands, kinds 1 to 34 (R182), in the order of the catalogue. The work on a
table is in its owner's file; here stand the Command Engine's own commands and one meaning for each kind. -/

namespace Sys2Proof.Machine

/-! ## The Command Engine's own commands -/

/-- The items of Status Read (R183; log 26). -/
def State.statusItems (s : State) : StatusItems :=
  { lastRestart := s.engine.lastRestart, clockSet := s.engine.voyage.time.isSome,
    vesselCodes := s.engine.vesselCodes, session := s.engine.session.map fun x => (x.table, x.mode),
    lines := s.lines.toList.map Line.state, gates := s.gateCount, cards := s.cards.length,
    cabins := s.cabins.length, accounts := s.charge.accounts.length, holds := s.charge.holds.length,
    records := s.charge.journal.length, lastNumber := s.charge.lastNumber, port := s.passage.port,
    passages := s.passage.passages.length, muster := s.muster.state, referrals := s.referral.list.length,
    events := s.events.records.length }

/-- A new value of the clock has reached the next boundary (R193). -/
def VoyageClock.crossedBy (v : VoyageClock) (t : DateTime) : Bool :=
  match v.time, v.boundary with
  | some _, some b => notLater b t
  | _, _ => false

/-- The clock takes a value, and the next boundary is the first later than it (R193). -/
def VoyageClock.setTo (v : VoyageClock) (hour : Nat) (t : DateTime) : VoyageClock :=
  { v with time := some t, millis := 0, boundary := some (boundaryAfter hour t) }

/-- Clock Set (R103, R193). -/
def setClock (s : State) (t : DateTime) : State × ExecResult :=
  if validTime t then
    let crossed := s.engine.voyage.crossedBy t
    let s := s.setEngine { s.engine with voyage := s.engine.voyage.setTo s.engine.profile.dayBoundaryHour t }
    (s.compareClock crossed, .ok)
  else (s, .parameter)

/-- Profile Set (R194): the next boundary is recomputed without a rollover. -/
def setProfile (s : State) (fields : ProfileOffer) : State × ExecResult :=
  match readProfile fields with
  | some p =>
    (s.setEngine { s.engine with profile := p, voyage := s.engine.voyage.rebound p.dayBoundaryHour }, .ok)
  | none => (s, .parameter)

/-- Vessel Codes Set (R184). -/
def setVesselCodes (s : State) (slot1 slot2 slot3 slot4 : Nat) : State × ExecResult :=
  if distinct ([slot1, slot2, slot3, slot4].filter fun n => n != 0) then
    (s.setEngine { s.engine with
      vesselCodes := #v[readSlot slot1, readSlot slot2, readSlot slot3, readSlot slot4] }, .ok)
  else (s, .parameter)

/-- A session as opened (R160). -/
def openedSession (table : TableName) (mode : LoadMode) (gapTimeout : Nat) : Session :=
  { table := table, mode := mode, applied := 0, refused := 0, gap := gapTimeout * Config.second }

/-- Load Open (R160). -/
def openLoad (s : State) (table mode : Nat) : State × ExecResult :=
  match readTable table, readMode mode with
  | some t, some m =>
    if s.engine.session.isSome then (s, .busy)
    else if s.engine.protection.allows m = false then (s, .protect)
    else
      (s.setEngine { s.engine with
        session := some (openedSession t m s.engine.profile.loadGapTimeout) }, .ok)
  | _, _ => (s, .parameter)

/-- Load Close (R167). -/
def closeLoad (s : State) : State × ExecResult × StatusData :=
  match s.engine.session with
  | none => (s, .notOpen, .none)
  | some x => (s.setEngine { s.engine with session := none }, .ok, .totals x.table x.mode x.applied x.refused)

/-- The time on the timebase that is left until a time. -/
def State.timeLeft (s : State) (t : Option Nat) : Option Nat := t.map fun e => e - s.timebase

/-- Entry Read (R170). -/
def readEntry (s : State) (table key : Nat) : ExecResult × StatusData :=
  match readTable table with
  | some .card =>
    if inRange 1 Config.maxCardNumber key then
      match s.card? key with
      | some e => (.ok, .card e)
      | none => (.notFound, .none)
    else (.parameter, .none)
  | some .account =>
    if inRange 1 Config.maxAccountNumber key then
      match s.account? key with
      | some a => (.ok, .account a (s.charge.holdsOf key))
      | none => (.notFound, .none)
    else (.parameter, .none)
  | some .cabin =>
    if inRange 1 Config.maxCabinNumber key then
      match s.cabin? key with
      | some c => (.ok, .cabin c (s.timeLeft c.windowEnd) (s.timeLeft c.overrideEnd))
      | none => (.notFound, .none)
    else (.parameter, .none)
  | none => (.parameter, .none)

/-- A range carried by Protection Set is in form (R172 case 1). -/
def rangeValid : Option (Nat × Nat) → Bool
  | none => true
  | some (low, high) => inRange 1 Config.maxCardNumber low && inRange 1 Config.maxCardNumber high && decide (low ≤ high)

/-- Some permission carried as Permitted is Withdrawn in the record (R172 case 2). -/
def Protection.regained (p : Protection) (load purge rangeRewrite : Bool) : Bool :=
  (load && !p.load) || (purge && !p.purge) || (rangeRewrite && !p.rangeRewrite)

/-- Protection Set (R172). -/
def setProtection (s : State) (load purge rangeRewrite : Nat) (range : Option (Nat × Nat)) : State × ExecResult :=
  match readPermission load, readPermission purge, readPermission rangeRewrite with
  | some lo, some pu, some rr =>
    if rangeValid range = false then (s, .parameter)
    else if s.engine.protection.regained lo pu rr then (s, .protect)
    else if range ≠ s.engine.protection.range ∧ s.engine.protection.rangeRewrite = false then (s, .protect)
    else
      (s.setEngine { s.engine with
        protection := { load := lo, purge := pu, rangeRewrite := rr, range := range } }, .ok)
  | _, _, _ => (s, .parameter)

/-- Protection Release (R173). -/
def releaseProtection (s : State) : State × ExecResult :=
  if s.cards = [] then (s.setEngine { s.engine with protection := Protection.default }, .ok) else (s, .inUse)

/-! ## Commands on the other blocks -/

/-- Port Call Open (R102). -/
def openPortCall (s : State) (t : DateTime) : State × ExecResult :=
  match s.engine.voyage.time with
  | none => (s, .parameter)
  | some now =>
    if validTime t = false ∨ notLater t now then (s, .parameter)
    else if s.passage.port.isAtSea then
      (s.setPassage { s.passage with port := .inPort t, untrackedIn := 0, untrackedOut := 0 }, .ok)
    else (s.setPassage { s.passage with port := .inPort t }, .ok)

/-- Port Call Close (R104). -/
def closePortCall (s : State) : State × ExecResult :=
  if s.passage.port.isAtSea then (s, .ok)
  else if s.passage.passages = [] then (s.setPassage { s.passage with port := .atSea }, .ok)
  else (s, .busy)

/-- Ashore Read (R120). -/
def readAshore (s : State) (start : Nat) : ExecResult × StatusData :=
  if inRange 1 Config.maxCardNumber start then
    let page := cardPage s.cards (fun e => e.presence == .ashore) start
    (.ok, .page page.1 page.2 s.passage.counters.ashore)
  else (.parameter, .none)

/-- Muster Start (R125). -/
def startMuster (s : State) (option : Nat) : State × ExecResult :=
  match readMusterOption option with
  | none => (s, .parameter)
  | some m =>
    match s.muster.state with
    | .off => (s.enterMuster m (.option m), .ok)
    | .drill => if m = .alert then (s.escalateMuster (.option .alert), .ok) else (s, .parameter)
    | .alert => (s, .parameter)

/-- Muster End (R128). -/
def finishMuster (s : State) : State × ExecResult :=
  if s.muster.state = .off then (s, .ok)
  else if s.muster.heldOff then (s, .busy)
  else (s.endMuster, .ok)

/-- Muster Roll Read (R138). -/
def readRoll (s : State) : StatusData :=
  .roll s.muster.state s.muster.startTime s.muster.alertTime s.muster.roll s.muster.musteredTotal
    s.muster.unlistedTotal s.unaccountedTotal

/-- Unaccounted Read (R139). -/
def readUnaccounted (s : State) (start : Nat) : ExecResult × StatusData :=
  if inRange 1 Config.maxCardNumber start then
    let page := cardPage s.cards CardEntry.unaccounted start
    (.ok, .page page.1 page.2 s.unaccountedTotal)
  else (.parameter, .none)

/-- An alarm input's number, 1 to 4. -/
def readInput (n : Nat) : Option (Fin 4) := if h : 1 ≤ n ∧ n ≤ 4 then some ⟨n - 1, by omega⟩ else none

/-- Alarm Config (R131). -/
def configureAlarm (s : State) (input mode : Nat) : State × ExecResult :=
  match readInput input, readAlarmMode mode with
  | some i, some m => ((s.modifyInput i fun x => { x with mode := m }).alarmIfHeld i, .ok)
  | _, _ => (s, .parameter)

/-- An alarm input read: its seen flag becomes clear (R132). -/
def AlarmInput.clearSeen (x : AlarmInput) : AlarmInput := { x with seen := false }

/-- Alarm Status (R132): the inputs as they stood, every seen flag then clear. -/
def readAlarms (s : State) : State × ExecResult × StatusData :=
  (s.setMuster { s.muster with inputs := vmap s.muster.inputs AlarmInput.clearSeen }, .ok, .inputs s.muster.inputs)

/-- Event Read (R198). -/
def readEvents (s : State) (count : Nat) : State × ExecResult × StatusData :=
  if inRange 1 8 count then
    let left := s.events.records.drop count
    (s.setEvents { s.events with records := left }, .ok, .events (s.events.records.take count) left.length)
  else (s, .parameter, .none)

/-- Event Kinds (R196). -/
def setEventKinds (s : State) (values : List Nat) : State × ExecResult :=
  match readEnables values with
  | some v => (s.setEvents { s.events with enables := v }, .ok)
  | none => (s, .parameter)

/-- A read: it changes no state. -/
def readOnly (s : State) (r : ExecResult × StatusData) : State × ExecResult × StatusData := (s, r.1, r.2)

/-! ## The meanings -/

/-- STATUS_READ (R183). -/
def execStatusRead (tag : Nat) (s : State) : Result :=
  .next (s.command 1 tag fun s => (s, .ok, .items s.statusItems))

/-- CLOCK_SET (R193). -/
def execClockSet (tag : Nat) (time : DateTime) (s : State) : Result :=
  .next (s.command 2 tag fun s => bare (setClock s time))

/-- PROFILE_SET (R194). -/
def execProfileSet (tag : Nat) (fields : ProfileOffer) (s : State) : Result :=
  .next (s.command 3 tag fun s => bare (setProfile s fields))

/-- PROFILE_READ (R194). -/
def execProfileRead (tag : Nat) (s : State) : Result :=
  .next (s.command 4 tag fun s => (s, .ok, .profile s.engine.profile))

/-- LINE_SETTINGS (R35): the Command Engine stays Executing while the line waits or settles. -/
def execLineSettings (tag line speed replyTimeout settle : Nat) (s : State) : Result :=
  .next (s.engineFrame 1 5 tag fun s =>
    let r := setLineSettings s line speed replyTimeout settle
    match r.2 with
    | some result => r.1.answer 1 5 tag result .none
    | none => r.1.setEngineState (.executing 5 tag))

/-- LINE_TEST_START (R37). -/
def execLineTestStart (tag line : Nat) (s : State) : Result :=
  .next (s.command 6 tag fun s => bare (startLineTest s line))

/-- LINE_TEST_END (R39). -/
def execLineTestEnd (tag line : Nat) (s : State) : Result :=
  .next (s.command 7 tag fun s => endLineTest s line)

/-- STATION_ENROLL (R24, R185). -/
def execStationEnroll (tag line addr kind : Nat) (kindData : Option Nat) (s : State) : Result :=
  .next (s.command 8 tag fun s => bare (enrollStation s line addr kind kindData))

/-- STATION_REMOVE (R25, R185). -/
def execStationRemove (tag line addr : Nat) (s : State) : Result :=
  .next (s.command 9 tag fun s => bare (removeStation s line addr))

/-- VESSEL_CODES_SET (R184). -/
def execVesselCodesSet (tag slot1 slot2 slot3 slot4 : Nat) (s : State) : Result :=
  .next (s.command 10 tag fun s => bare (setVesselCodes s slot1 slot2 slot3 slot4))

/-- LOAD_OPEN (R160). -/
def execLoadOpen (tag table mode : Nat) (s : State) : Result :=
  .next (s.command 11 tag fun s => bare (openLoad s table mode))

/-- LOAD_CLOSE (R167). -/
def execLoadClose (tag : Nat) (s : State) : Result :=
  .next (s.command 12 tag closeLoad)

/-- ENTRY_READ (R170). -/
def execEntryRead (tag table key : Nat) (s : State) : Result :=
  .next (s.command 13 tag fun s => readOnly s (readEntry s table key))

/-- ACCOUNT_WRITE (R70). -/
def execAccountWrite (tag account : Nat) (state voyageCap dailyCap : Option Nat) (s : State) : Result :=
  .next (s.command 14 tag fun s => bare (writeAccount s account state voyageCap dailyCap))

/-- CABIN_WRITE (R61, R62). -/
def execCabinWrite (tag cabin : Nat) (lockOut : Option Nat) (watch : Option (Nat × Nat)) (tamper : Option Nat)
    (s : State) : Result :=
  .next (s.command 15 tag fun s => bare (writeCabin s cabin lockOut watch tamper))

/-- PRESENCE_SET (R116). -/
def execPresenceSet (tag card presence stamp : Nat) (s : State) : Result :=
  .next (s.command 16 tag fun s => setCardPresence s card presence stamp)

/-- PORT_CALL_OPEN (R102). -/
def execPortCallOpen (tag : Nat) (allAboard : DateTime) (s : State) : Result :=
  .next (s.command 17 tag fun s => bare (openPortCall s allAboard))

/-- PORT_CALL_CLOSE (R104). -/
def execPortCallClose (tag : Nat) (s : State) : Result :=
  .next (s.command 18 tag fun s => bare (closePortCall s))

/-- JOURNAL_READ (R95, R96). -/
def execJournalRead (tag start count : Nat) (s : State) : Result :=
  .next (s.command 19 tag fun s => readOnly s (readJournal s start count))

/-- JOURNAL_RELEASE (R97). -/
def execJournalRelease (tag number : Nat) (s : State) : Result :=
  .next (s.command 20 tag fun s => releaseJournal s number)

/-- COUNTER_READ (R119). -/
def execCounterRead (tag : Nat) (s : State) : Result :=
  .next (s.command 21 tag fun s =>
    (s, .ok, .counters s.passage.counters s.passage.untrackedIn s.passage.untrackedOut s.passage.port
      s.passage.passages.length))

/-- ASHORE_READ (R120). -/
def execAshoreRead (tag start : Nat) (s : State) : Result :=
  .next (s.command 22 tag fun s => readOnly s (readAshore s start))

/-- MUSTER_START (R125-R127). -/
def execMusterStart (tag option : Nat) (s : State) : Result :=
  .next (s.command 23 tag fun s => bare (startMuster s option))

/-- MUSTER_END (R128). -/
def execMusterEnd (tag : Nat) (s : State) : Result :=
  .next (s.command 24 tag fun s => bare (finishMuster s))

/-- MUSTER_ROLL_READ (R138). -/
def execMusterRollRead (tag : Nat) (s : State) : Result :=
  .next (s.command 25 tag fun s => (s, .ok, readRoll s))

/-- UNACCOUNTED_READ (R139). -/
def execUnaccountedRead (tag start : Nat) (s : State) : Result :=
  .next (s.command 26 tag fun s => readOnly s (readUnaccounted s start))

/-- ALARM_CONFIG (R131). -/
def execAlarmConfig (tag input mode : Nat) (s : State) : Result :=
  .next (s.command 27 tag fun s => bare (configureAlarm s input mode))

/-- ALARM_STATUS (R132). -/
def execAlarmStatus (tag : Nat) (s : State) : Result :=
  .next (s.command 28 tag readAlarms)

/-- EVENT_READ (R198). -/
def execEventRead (tag count : Nat) (s : State) : Result :=
  .next (s.command 29 tag fun s => readEvents s count)

/-- EVENT_KINDS (R196). -/
def execEventKinds (tag : Nat) (values : List Nat) (s : State) : Result :=
  .next (s.command 30 tag fun s => bare (setEventKinds s values))

/-- PROTECTION_SET (R172). -/
def execProtectionSet (tag load purge rangeRewrite : Nat) (range : Option (Nat × Nat)) (s : State) : Result :=
  .next (s.command 31 tag fun s => bare (setProtection s load purge rangeRewrite range))

/-- PROTECTION_GET (R171). -/
def execProtectionGet (tag : Nat) (s : State) : Result :=
  .next (s.command 32 tag fun s => (s, .ok, .protection s.engine.protection s.cards.length))

/-- PROTECTION_RELEASE (R173). -/
def execProtectionRelease (tag : Nat) (s : State) : Result :=
  .next (s.command 33 tag fun s => bare (releaseProtection s))

/-- RESTART (R186): the Status is handed and the Command Engine stays Executing until the restart begins. -/
def execRestart (tag option : Nat) (s : State) : Result :=
  .next (s.engineFrame 1 34 tag fun s =>
    match readRestartOption option with
    | none => s.answer 1 34 tag .parameter .none
    | some k =>
      (s.setEngine { s.engine with state := .executing 34 tag, restartOption := some k }).answer 1 34 tag .ok .none)

end Sys2Proof.Machine
end

