-- ==== Sys2Proof/Machine/Rows.lean ====
section
/-! DEFINITION. The meanings of the rows of the reader lines, the timers and the alarm inputs. Each expiry
takes effect when its time has run out, and changes nothing before (log 2). -/

namespace Sys2Proof.Machine

/-! ## Reader lines -/

/-- POLL (R26, R28, R38). -/
def execPoll (line : LineNo) (s : State) : Result :=
  .next (s.whenOn fun s => s.modifyLine line Line.sendPoll)

/-- The exchange of a line has waited the reply timeout (R27). -/
def Line.replyDue (x : Line) : Bool :=
  match x.exchange with
  | some e => e.left == 0
  | none => false

/-- REPLY_TIMEOUT (R27, R29). -/
def execReplyTimeout (line : LineNo) (s : State) : Result :=
  .next (s.whenOn fun s => if (s.line line).replyDue then s.missOn line else s)

/-- BAD_REPLY (R27, R29). -/
def execBadReply (line : LineNo) (s : State) : Result :=
  .next (s.whenOn fun s => s.missOn line)

/-- IDLE (R27). -/
def execIdle (station : Station) (sensors : Sensors) (s : State) : Result :=
  .next (s.whenOn fun s => s.takeIdle station sensors)

/-- REQUEST (R31, R33). -/
def execRequest (station : Station) (sensors : Sensors) (number : Nat) (content : Request) (s : State) : Result :=
  .next (s.whenOn fun s => s.takeRequestReply station sensors number content)

/-- ACKNOWLEDGE (R32). -/
def execAcknowledge (station : Station) (sensors : Sensors) (number : Nat) (s : State) : Result :=
  .next (s.whenOn fun s => s.takeAcknowledge station sensors number)

/-- THROUGH_UP (R41, R156). -/
def execThroughUp (station : Station) (data : List Byte) (s : State) : Result :=
  .next (s.whenOn fun s => s.takeThroughUp station data)

/-- ECHO (R38). -/
def execEcho (station : Station) (data : List Byte) (s : State) : Result :=
  .next (s.whenOn fun s => s.takeEcho station data)

/-- The line starts to poll at the end of the settle interval (R35). -/
def Line.endSettling (x : Line) : Line := { x with state := .running, round := none, roundCount := 0 }

/-- SETTLE_INTERVAL_END (R35): Running with round count 0, and the Status of Line Settings with OK. -/
def execSettleIntervalEnd (line : LineNo) (s : State) : Result :=
  .next (s.whenOn fun s =>
    if (s.line line).state = .settling ∧ (s.line line).settleLeft = 0 then
      (s.modifyLine line Line.endSettling).finishCommand .ok
    else s)

/-- The time of a Line Settings command that waits has run out (R36). -/
def Line.waitDue (x : Line) : Bool :=
  match x.wait with
  | some w => w.left == 0
  | none => false

/-- The line resumes its ordinary rounds (R36; log 13). -/
def Line.endWait (x : Line) : Line := { x with wait := none, round := none }

/-- LINE_SETTINGS_WAIT_TIMEOUT (R36): BUSY, the old settings stay. -/
def execLineSettingsWaitTimeout (line : LineNo) (s : State) : Result :=
  .next (s.whenOn fun s =>
    if (s.line line).waitDue then (s.modifyLine line Line.endWait).finishCommand .busy else s)

/-! ## Cabins, holds, passages, referrals, the session -/

/-- The timebase has reached a time. -/
def State.reached (s : State) (t : Option Nat) : Bool :=
  match t with
  | some e => decide (e ≤ s.timebase)
  | none => false

/-- WINDOW_END (R52). -/
def execWindowEnd (cabin : Nat) (s : State) : Result :=
  .next (s.whenOn fun s =>
    match s.cabin? cabin with
    | some c => if s.reached c.windowEnd then s.setCabin c.endWindow else s
    | none => s)

/-- OVERRIDE_END (R53). -/
def execOverrideEnd (cabin : Nat) (s : State) : Result :=
  .next (s.whenOn fun s =>
    match s.cabin? cabin with
    | some c => if s.reached c.overrideEnd then s.setCabin c.endOverride else s
    | none => s)

/-- HOLD_LAPSE (R80). -/
def execHoldLapse (holdTag : Nat) (s : State) : Result :=
  .next (s.whenOn fun s =>
    match s.hold? holdTag with
    | some h => if h.left = 0 then s.lapseHold h else s
    | none => s)

/-- PASSAGE_CONFIRM_TIMEOUT (R111). -/
def execPassageConfirmTimeout (gate : Station) (s : State) : Result :=
  .next (s.whenOn fun s =>
    match s.passageAt? gate with
    | some p => if p.left = 0 then s.abandonPassage gate .abandonedTimeout else s
    | none => s)

/-- REFERRAL_TIMEOUT (R145). -/
def execReferralTimeout (referralTag : Nat) (s : State) : Result :=
  .next (s.whenOn fun s =>
    match s.referral? referralTag with
    | some r => if r.left = 0 then s.timeoutReferral r else s
    | none => s)

/-- The session whose remaining gap has run out; none while a Data frame is being settled, which was taken first
and sets the gap again with its last entry (R168). -/
def CommandEngine.abandonedSession (e : CommandEngine) : Option Session :=
  match e.state with
  | .loading _ => none
  | _ => e.session.filter fun x => x.gap == 0

/-- LOAD_GAP_EXPIRY (R168): the session is abandoned, with Load Abandoned. -/
def execLoadGapExpiry (s : State) : Result :=
  .next (s.whenOn fun s =>
    match s.engine.abandonedSession with
    | some x =>
      (s.setEngine { s.engine with session := none }).report
        { kind := .loadAbandoned, detail := some (.applied x.applied) }
    | none => s)

/-! ## The clock and the alarm inputs -/

/-- DAY_BOUNDARY (R85, R192): the rollover of a boundary that stands reached. A running clock takes it in the event in
which it gets there (`State.compareRunning`; log 1). -/
def execDayBoundary (s : State) : Result :=
  .next (s.whenOn fun s =>
    if s.engine.voyage.boundaryReached then
      (s.setEngine { s.engine with voyage := s.engine.voyage.moveBoundary }).rollover
    else s)

/-- ALL_ABOARD_DUE (R103): the transition of an all-aboard time that stands reached. A running clock takes it in the
event in which it gets there (`State.compareRunning`; log 1). -/
def execAllAboardDue (s : State) : Result :=
  .next (s.whenOn fun s => if s.allAboardReached then s.enterLastCall else s)

/-- ALARM_INPUT (R129, R130; log 5). -/
def execAlarmInput (input : Fin 4) (level : Bool) (s : State) : Result :=
  .next (s.whenOn fun s => s.alarmChange input level)

end Sys2Proof.Machine
end

