-- ==== Sys2Proof/Machine/WireOut.lean ====
section
/-! DEFINITION. Bytes sent (R179, R189-R191): the frames that leave the trunk and the Polls of the reader
lines. Where R190 leaves a coding open, log 20 names the model's choice. -/

namespace Sys2Proof.Machine

/-! ## Fields (R190) -/

/-- A number in a fixed count of bytes, most significant byte first. -/
def numBytes : Nat → Nat → List Byte
  | 0, _ => []
  | w + 1, n => BitVec.ofNat 8 (n / 256 ^ w) :: numBytes w n

/-- One byte. -/
def oneByte (n : Nat) : List Byte := numBytes 1 n

/-- An optional field: 1 and the field, or 0. -/
def optBytes {α : Type} (f : α → List Byte) : Option α → List Byte
  | some x => oneByte 1 ++ f x
  | none => oneByte 0

/-- A list preceded by its count in a number of bytes. -/
def listBytes {α : Type} (w : Nat) (f : α → List Byte) (xs : List α) : List Byte :=
  numBytes w xs.length ++ xs.flatMap f

/-- Yes 1, no 2. -/
def yesNoBytes (b : Bool) : List Byte := oneByte (if b then 1 else 2)

/-- A station: line, then address. -/
def stationBytes (st : Station) : List Byte := oneByte st.line.val ++ oneByte st.addr

/-- A date and time: seven bytes. -/
def dateBytes (t : DateTime) : List Byte :=
  numBytes 2 t.year ++ oneByte t.month ++ oneByte t.day ++ oneByte t.hour ++ oneByte t.minute ++ oneByte t.second

/-- A voyage time: "unset" is seven bytes 00. -/
def timeBytes : Option DateTime → List Byte
  | some t => dateBytes t
  | none => List.replicate 7 0x00#8

/-- A voyage time that may be absent: seven bytes FF. -/
def optTimeBytes : Option (Option DateTime) → List Byte
  | some t => timeBytes t
  | none => List.replicate 7 0xFF#8

/-- A set of lock sensors, as the sensor byte of R191. -/
def sensorByte (x : Sensors) : List Byte :=
  oneByte (x.leafClosed.toNat + 2 * x.boltThrown.toNat + 4 * x.privacyKnob.toNat + 8 * x.tamperCover.toNat)

/-! ## Codes of names, numbered from 1 in the order of their rules -/

/-- Execution results and per-entry results (R189). -/
def ExecResult.code : ExecResult → Nat
  | .ok => 0 | .busy => 1 | .parameter => 2 | .protect => 3 | .inUse => 4 | .full => 5 | .notFound => 6
  | .stale => 7 | .late => 8 | .order => 9 | .notOpen => 10

/-- Reception results (R189). -/
def Reception.code : Reception → Nat
  | .accepted => 0 | .check => 1 | .malformed => 2 | .unknownKind => 3

/-- Install results, in the execution result codes; absence is 255 (R189). -/
def installCode : Option InstallResult → Nat
  | some .installed => 0 | some .parameter => 2 | some .protect => 3 | some .inUse => 4 | some .full => 5
  | none => 255

/-- Verdict reasons in the order of R34 (R189). -/
def Reason.code : Reason → Nat
  | .granted => 1 | .repeated => 2 | .foreign => 3 | .unknown => 4 | .superseded => 5 | .blocked => 6
  | .expired => 7 | .notListed => 8 | .privacy => 9 | .lockedOut => 10 | .noCabin => 11 | .noAccount => 12
  | .accountHeld => 13 | .cap => 14 | .dailyCap => 15 | .age => 16 | .presence => 17 | .barsClosed => 18
  | .terminalLimit => 19 | .holdLimit => 20 | .journalFull => 21 | .direction => 22 | .notInPort => 23
  | .lastCall => 24 | .muster => 25 | .busy => 26 | .late => 27 | .parameter => 28 | .outOfService => 29

/-- Holder class. -/
def HolderClass.code : HolderClass → Nat
  | .guest => 1 | .junior => 2 | .crew => 3 | .steward => 4 | .officer => 5
/-- Card status. -/
def CardStatus.code : CardStatus → Nat
  | .active => 1 | .blocked => 2
/-- Presence. -/
def Presence.code : Presence → Nat
  | .aboard => 1 | .ashore => 2 | .unknown => 3
/-- Gesture. -/
def Gesture.code : Gesture → Nat
  | .openDoor => 1 | .lockout => 2
/-- Goods class. -/
def Goods.code : Goods → Nat
  | .ordinary => 1 | .restricted => 2
/-- Direction. -/
def Direction.code : Direction → Nat
  | .outbound => 1 | .inbound => 2
/-- Passage Report outcome. -/
def PassageOutcome.code : PassageOutcome → Nat
  | .passed => 1 | .notPassed => 2
/-- Referral cause. -/
def ReferralCause.code : ReferralCause → Nat
  | .lookupMiss => 1 | .higherIssue => 2 | .windowClockUnset => 3
/-- Fallback cause (R158). -/
def FallbackCause.code : FallbackCause → Nat
  | .trunkDown => 1 | .listFull => 2 | .timeout => 3 | .trunkLoss => 4
/-- Line state (R22). -/
def LineState.code : LineState → Nat
  | .stopped => 1 | .running => 2 | .settling => 3 | .test => 4
/-- Account state. -/
def AccountState.code : AccountState → Nat
  | .opened => 1 | .suspended => 2 | .closed => 3
/-- Kind of journal record. -/
def JournalKind.code : JournalKind → Nat
  | .completed => 1 | .cancelled => 2 | .lapsed => 3
/-- Tamper action. -/
def TamperAction.code : TamperAction → Nat
  | .none => 1 | .lockOut => 2
/-- Entry watch. -/
def Watch.code : Watch → Nat
  | .armed => 1 | .tripped => 2
/-- Port state. -/
def PortState.code : PortState → Nat
  | .atSea => 1 | .inPort _ => 2 | .lastCall _ => 3
/-- Muster state. -/
def MusterState.code : MusterState → Nat
  | .off => 1 | .drill => 2 | .alert => 3
/-- Mode of an alarm input. -/
def AlarmMode.code : AlarmMode → Nat
  | .disabled => 1 | .risingEdge => 2 | .fallingEdge => 3 | .levelHigh => 4 | .levelLow => 5
/-- Table of a session. -/
def TableName.code : TableName → Nat
  | .card => 1 | .account => 2 | .cabin => 3
/-- Mode of a session. -/
def LoadMode.code : LoadMode → Nat
  | .merge => 1 | .purge => 2
/-- Kind of restart. -/
def RestartKind.code : RestartKind → Nat
  | .cold => 1 | .warm => 2
/-- Cause of a restart, in the order of R187. -/
def RestartCause.code : RestartCause → Nat
  | .retentionLost => 1 | .checkFailed => 2 | .powerReturned => 3 | .command => 4
/-- Count mode. -/
def CountMode.code : CountMode → Nat
  | .strict => 1 | .lenient => 2
/-- Policy. -/
def Policy.code : Policy → Nat
  | .refuse => 1 | .grant => 2
/-- A permission: Permitted 1, Withdrawn 2. -/
def permissionCode (b : Bool) : Nat := if b then 1 else 2

/-! ## Records -/

/-- A muster mark (R4). DESIGN CHOICE log 20: Unmarked is 1 alone, and Mustered is 2 followed by its station. -/
def markBytes : MusterMark → List Byte
  | .unmarked => oneByte 1
  | .mustered st => oneByte 2 ++ oneByte st

/-- A card entry with every field of R4 (R170). -/
def cardBytes (e : CardEntry) : List Byte :=
  numBytes 3 e.data.number ++ oneByte e.data.issue ++ oneByte e.data.cls.code ++ oneByte e.data.status.code
    ++ optBytes (numBytes 3) e.data.account ++ listBytes 1 (numBytes 2) e.data.cabins
    ++ listBytes 1 oneByte e.data.zones
    ++ optBytes (fun w : DateTime × DateTime => dateBytes w.1 ++ dateBytes w.2) e.data.window
    ++ oneByte e.data.musterStation ++ yesNoBytes e.data.search ++ oneByte e.presence.code
    ++ numBytes 4 e.stamp ++ markBytes e.mark

/-- A hold with every field of R71 (R170). -/
def holdBytes (h : Hold) : List Byte :=
  numBytes 2 h.tag ++ numBytes 3 h.card ++ numBytes 3 h.account ++ stationBytes h.station ++ oneByte h.outlet
    ++ numBytes 2 h.reference ++ numBytes 3 h.amount ++ oneByte h.goods.code ++ numBytes 4 h.left
    ++ yesNoBytes h.detached

/-- An account with every field of R66 (R170). -/
def accountBytes (a : Account) (holds : List Hold) : List Byte :=
  numBytes 3 a.number ++ oneByte a.state.code ++ numBytes 4 a.voyageCap ++ numBytes 4 a.voyageSpent
    ++ numBytes 4 a.dailyCap ++ numBytes 4 a.dailySpent ++ numBytes 3 a.heldTotal ++ listBytes 1 holdBytes holds

/-- A lock-out holder (R44). DESIGN CHOICE log 20: a form byte, 1 for an officer followed by the card, 2 for "command"
and 3 for "automatic". -/
def holderBytes : Holder → List Byte
  | .officer card => oneByte 1 ++ numBytes 3 card
  | .command => oneByte 2
  | .automatic => oneByte 3

/-- A lock state and its holder, which is an optional field. -/
def lockStateBytes : LockState → List Byte
  | .secured => oneByte 1 ++ oneByte 0
  | .openWindow => oneByte 2 ++ oneByte 0
  | .lockedOut h => oneByte 3 ++ oneByte 1 ++ holderBytes h

/-- An access record (R56). -/
def accessBytes (r : AccessRecord) : List Byte :=
  numBytes 3 r.card ++ timeBytes r.time ++ oneByte r.gesture.code ++ oneByte r.reason.code

/-- A cabin with every field of R44 (R170). -/
def cabinBytes (c : Cabin) (windowLeft overrideLeft : Option Nat) : List Byte :=
  numBytes 2 c.data.number ++ oneByte c.data.zone ++ optBytes stationBytes c.data.lock
    ++ sensorByte c.data.pattern ++ sensorByte c.data.mask ++ optBytes sensorByte c.data.openMask
    ++ oneByte c.data.tamper.code ++ lockStateBytes c.lockState ++ optBytes (numBytes 4) windowLeft
    ++ optBytes (numBytes 4) overrideLeft ++ optBytes sensorByte c.lastWord ++ oneByte c.watch.code
    ++ oneByte (if c.privacy then 1 else 2) ++ listBytes 1 accessBytes c.trail

/-- A journal record with every field of R90. -/
def journalBytes (r : JournalRecord) : List Byte :=
  numBytes 4 r.number ++ oneByte r.kind.code ++ numBytes 3 r.account ++ numBytes 3 r.card
    ++ stationBytes r.station ++ oneByte r.outlet ++ numBytes 2 r.reference ++ numBytes 2 r.tag
    ++ numBytes 3 r.amount ++ timeBytes r.time ++ numBytes 2 r.day

/-- The detail of an event record. DESIGN CHOICE log 20: an option or an input that starts or escalates a muster carries
a form byte, and the option Alert of Muster Escalated is 2, as Muster Start numbers it. -/
def detailBytes (kind : EventKind) : Detail → List Byte
  | .gesture => oneByte 1
  | .command => oneByte 2
  | .automatic => oneByte 3
  | .lockOutApplied => oneByte 1
  | .missCount n => oneByte n
  | .holdTag n => numBytes 2 n
  | .dayNumber n => numBytes 2 n
  | .abandonedTimeout => oneByte 1
  | .abandonedAbsent => oneByte 2
  | .abandonedMuster => oneByte 3
  | .outcome o => oneByte o.code
  | .ashoreCounts g j => numBytes 2 g ++ numBytes 2 j
  | .option st => oneByte 1 ++ oneByte (if st = .alert then 2 else 1)
  | .input n => if kind = .alarmInput then oneByte n else oneByte 2 ++ oneByte n
  | .unaccounted n => numBytes 2 n
  | .musterStation n => oneByte n
  | .cause c => oneByte c.code
  | .referralTag n => numBytes 2 n
  | .applied n => numBytes 4 n
  | .passages n => oneByte n
  | .discarded n => numBytes 2 n

/-- An event record (R196, R198). -/
def eventBytes (r : EventRecord) : List Byte :=
  oneByte (r.kind.index.val + 1) ++ timeBytes r.time ++ optBytes stationBytes r.station
    ++ optBytes (numBytes 3) r.card ++ optBytes (numBytes 2) r.cabin ++ optBytes (numBytes 3) r.account
    ++ optBytes (detailBytes r.kind) r.detail

/-- The thirteen fields of the profile (R194). -/
def profileBytes (p : Profile) : List Byte :=
  oneByte p.openWindow ++ oneByte p.entryGrace ++ numBytes 2 p.holdLifetime ++ oneByte p.terminalHoldLimit
    ++ oneByte p.confirmTimeout ++ oneByte p.referralTimeout ++ oneByte p.repeatWindow ++ oneByte p.missLimit
    ++ oneByte p.loadGapTimeout ++ oneByte p.dayBoundaryHour ++ oneByte p.countMode.code
    ++ oneByte p.openFallback.code ++ oneByte p.passageFallback.code

/-- The load session of Status Read (R159, R183). DESIGN CHOICE log 20: Closed is 1 alone, and Open is 2 followed by its
table and mode, with no presence byte. -/
def sessionBytes : Option (TableName × LoadMode) → List Byte
  | none => oneByte 1
  | some (table, mode) => oneByte 2 ++ oneByte table.code ++ oneByte mode.code

/-- The items of Status Read; the trunk state is Up, the second of its two names (R153, R183). DESIGN CHOICE log 20:
an empty vessel code slot is two bytes 0, as Vessel Codes Set carries it, and a group of fixed size, the four slots and
the eight lines here, has no count before it. -/
def itemsBytes (x : StatusItems) : List Byte :=
  oneByte 2 ++ oneByte x.lastRestart.kind.code ++ oneByte x.lastRestart.cause.code ++ yesNoBytes x.clockSet
    ++ x.vesselCodes.toList.flatMap (fun c => numBytes 2 (c.getD 0))
    ++ sessionBytes x.session
    ++ x.lines.flatMap (fun st => oneByte st.code) ++ oneByte x.gates ++ numBytes 2 x.cards
    ++ numBytes 2 x.cabins ++ numBytes 2 x.accounts ++ numBytes 2 x.holds ++ numBytes 2 x.records
    ++ numBytes 4 x.lastNumber ++ oneByte x.port.code ++ oneByte x.passages ++ oneByte x.muster.code
    ++ oneByte x.referrals ++ numBytes 2 x.events

/-- The three counts of a class (R119). -/
def countsBytes (c : PresenceCounts) : List Byte :=
  numBytes 2 c.aboard ++ numBytes 2 c.ashore ++ numBytes 2 c.unknown

/-- The fifteen counters (R119). -/
def countersBytes (c : Counters) : List Byte :=
  countsBytes c.guest ++ countsBytes c.junior ++ countsBytes c.crew ++ countsBytes c.steward
    ++ countsBytes c.officer

/-- The all-aboard time of a port state (R119). -/
def PortState.allAboard : PortState → Option (Option DateTime)
  | .atSea => none
  | .inPort t => some (some t)
  | .lastCall t => some (some t)

/-- A row of the roll (R138). -/
def rollBytes (r : RollRow) : List Byte := numBytes 2 r.guestJunior ++ numBytes 2 r.crew ++ numBytes 2 r.unlisted

/-- An alarm input (R132): mode, level, seen flag. DESIGN CHOICE log 20: a level high is 1 and low 2, a seen flag set
is yes 1 and clear no 2. -/
def inputBytes (x : AlarmInput) : List Byte :=
  oneByte x.mode.code ++ oneByte (if x.level then 1 else 2) ++ yesNoBytes x.seen

/-- The data of a Status after the execution result (R179, R190). DESIGN CHOICE log 20: the 32 rows of the roll and the
four inputs have no count before them, the number of records returned by Journal Read is the count of their list and is
sent once, and the protected range is one optional field. -/
def StatusData.bytes : StatusData → List Byte
  | .none => []
  | .items x => itemsBytes x
  | .profile p => profileBytes p
  | .echoes xs => listBytes 1 (fun x : Nat × Nat × Nat => oneByte x.1 ++ numBytes 2 x.2.1 ++ numBytes 2 x.2.2) xs
  | .totals t m a r => oneByte t.code ++ oneByte m.code ++ numBytes 4 a ++ numBytes 4 r
  | .card e => cardBytes e
  | .account a hs => accountBytes a hs
  | .cabin c w o => cabinBytes c w o
  | .stamp n => numBytes 4 n
  | .journal rs o l => listBytes 1 journalBytes rs ++ numBytes 4 o ++ numBytes 4 l
  | .released n o => numBytes 2 n ++ numBytes 4 o
  | .counters c i o p n =>
    countersBytes c ++ numBytes 2 i ++ numBytes 2 o ++ oneByte p.code ++ optTimeBytes p.allAboard ++ oneByte n
  | .page ns next total => listBytes 1 (numBytes 3) ns ++ optBytes (numBytes 3) next ++ numBytes 2 total
  | .roll st a b rows m u n =>
    oneByte st.code ++ optTimeBytes a ++ optTimeBytes b ++ rows.toList.flatMap rollBytes ++ numBytes 2 m
      ++ numBytes 3 u ++ numBytes 2 n
  | .inputs xs => xs.toList.flatMap inputBytes
  | .events rs held => listBytes 1 eventBytes rs ++ numBytes 2 held
  | .protection p n =>
    oneByte (permissionCode p.load) ++ oneByte (permissionCode p.purge) ++ oneByte (permissionCode p.rangeRewrite)
      ++ optBytes (fun r : Nat × Nat => numBytes 3 r.1 ++ numBytes 3 r.2) p.range ++ numBytes 2 n
  | .entries rs => listBytes 1 (fun r : ExecResult => oneByte r.code) rs
  | .install r => oneByte (installCode r)

/-! ## Frames (R177, R189) -/

/-- A trunk frame: start marker, Length, class, kind, tag, body, check word. -/
def trunkFrame (cls kind tag : Nat) (body : List Byte) : List Byte :=
  let counted := numBytes 2 (body.length + 4) ++ oneByte cls ++ oneByte kind ++ numBytes 2 tag ++ body
  startMarker :: (counted ++ numBytes 2 (checkWord counted))

/-- The body of a Status (R179, R189). -/
def Status.body (x : Status) : List Byte :=
  oneByte x.cls ++ oneByte x.reception.code
    ++ (match x.result with | some r => oneByte r.code ++ x.data.bytes | none => [])

/-- The job and the kind part of a presentation in a Referral frame (R144, R189). -/
def JobPart.code : JobPart → Nat
  | .openDoor => 1 | .lockout => 2 | .authorize _ _ _ => 3 | .passage _ => 4 | .muster _ => 5

/-- The kind part of a Referral body (R189). -/
def JobPart.bytes : JobPart → List Byte
  | .openDoor => oneByte 1
  | .lockout => oneByte 2
  | .authorize amount goods reference => numBytes 3 amount ++ oneByte goods.code ++ numBytes 2 reference
  | .passage d => oneByte d.code
  | .muster m => oneByte m

/-- The body of a Referral (R144, R189). -/
def referralBody (p : Presentation) (cause : ReferralCause) : List Byte :=
  stationBytes p.station ++ oneByte p.part.code ++ oneByte cause.code ++ numBytes 2 p.vessel
    ++ numBytes 3 p.card ++ oneByte p.issue ++ p.part.bytes

/-- The bytes of a frame that leaves the trunk (R144, R156, R179, R189). -/
def OutFrame.bytes : OutFrame → List Byte
  | .status x => trunkFrame 3 x.kind x.tag x.body
  | .referral tag p cause => trunkFrame 4 0 tag (referralBody p cause)
  | .throughUp st data => trunkFrame 7 0 0 (stationBytes st ++ data)

/-! ## Polls (R191) -/

/-- The frame kind, request number and content of a Poll (R191). -/
def pollParts : PollContent → Nat × Nat × List Byte
  | .plain => (1, 0, [])
  | .pending n => (2, n, [])
  | .verdict n v => (3, n, oneByte v.reason.code ++ numBytes 2 (v.holdTag.getD 0))
  | .notice x =>
    (4, x.number.getD 0, oneByte x.reason.code ++ oneByte (if x.number.isSome then 1 else 0))
  | .through d => (5, 0, d)
  | .test => (6, 0, testPattern)

/-- The bytes of the Poll of an exchange (R191). -/
def pollBytes (x : Exchange) : List Byte :=
  let p := pollParts x.content
  let counted := oneByte x.addr ++ oneByte p.1 ++ oneByte p.2.1 ++ oneByte 0 ++ oneByte p.2.2.length ++ p.2.2
  counted ++ numBytes 2 (checkWord counted)

end Sys2Proof.Machine
end

