-- ==== Sys2Proof/Machine/Tick.lean ====
section
/-! DEFINITION. The tick: one millisecond of the timebase, which is the step on an empty queue (log 1), and how the
receiver settles frames. The tick counts time, lets one frame leave the trunk (log 10), takes what the running clock
has reached (R103, R192), settles the next entry of a Data frame (log 34), discards what a gap has broken off (R176;
log 15), and puts the rows that are due into the queue. -/

namespace Sys2Proof.Machine

/-! ## Time passes (00, Time) -/

/-- An exchange one millisecond on (R27). -/
def Exchange.tick (x : Exchange) : Exchange := { x with left := x.left - 1 }

/-- A waiting Line Settings command one millisecond on (R36). -/
def LineWait.tick (w : LineWait) : LineWait := { w with left := w.left - 1 }

/-- A line one millisecond on (R27, R35, R36). -/
def Line.tick (x : Line) : Line :=
  { x with exchange := x.exchange.map Exchange.tick, wait := x.wait.map LineWait.tick,
           settleLeft := x.settleLeft - 1 }

/-- A hold one millisecond on (R80). -/
def Hold.tick (h : Hold) : Hold := { h with left := h.left - 1 }

/-- A pending passage one millisecond on (R108). -/
def Passage.tick (p : Passage) : Passage := { p with left := p.left - 1 }

/-- A referral one millisecond on (R145). -/
def Referral.tick (r : Referral) : Referral := { r with left := r.left - 1 }

/-- A load session one millisecond on (R168). -/
def Session.tick (x : Session) : Session := { x with gap := x.gap - 1 }

/-- The Command Engine one millisecond on (R168, R192). -/
def CommandEngine.tick (e : CommandEngine) : CommandEngine :=
  { e with session := e.session.map Session.tick, voyage := e.voyage.advance }

/-- The Trunk Port one millisecond on: the gap since the last byte (R176), and the oldest frame leaves
while the trunk is Up (R144; log 10). -/
def TrunkPort.tick (t : TrunkPort) : TrunkPort :=
  { t with silence := if t.received = [] then 0 else t.silence + 1,
           outgoing := if t.up then t.outgoing.drop 1 else t.outgoing }

/-- Everything that counts, one millisecond on. -/
def State.countTime (s : State) : State :=
  { s with
    timebase := s.timebase + 1
    trunk := s.trunk.tick
    engine := s.engine.tick
    lines := vmap s.lines Line.tick
    charge := { s.charge with holds := s.charge.holds.map Hold.tick }
    passage := { s.passage with passages := s.passage.passages.map Passage.tick }
    referral := { s.referral with list := s.referral.list.map Referral.tick } }

/-! ## The receiver (R176, R177) -/

/-- The frames that bytes give, as their rows in the order in which they complete, and the bytes left, which are those
of a frame not yet complete (R176, R178; log 15). A Length not readable, or a gap of more than 50 ms before the frame
is complete, discards the frame, and the search goes on from the byte after its start marker. `up` is the trunk's
state when the frame is taken, after the frames before it (R153). The first number bounds the frames and start markers
looked at. -/
def takeFrames (silence : Nat) : Nat → Bool → List Byte → List Instr × List Byte
  | 0, _, bs => ([], bs)
  | n + 1, up, bs =>
    match framing silence (seekMarker bs) with
    | .waiting => ([], seekMarker bs)
    | .badLength => takeFrames silence n up ((seekMarker bs).drop 1)
    | .partialFrame =>
      if Config.frameGap < silence then takeFrames silence n up ((seekMarker bs).drop 1) else ([], seekMarker bs)
    | .complete c k tag body good rest =>
      if good then
        let r := takeFrames silence n true rest
        (readFrame c k tag body :: r.1, r.2)
      else
        let r := takeFrames silence n up (if up then rest else (seekMarker bs).drop 1)
        (.frameCheckFailed c k tag :: r.1, r.2)

/-- The receiver settles every frame that the bytes held give; each frame or marker looked at takes a byte at least. -/
def TrunkPort.frames (t : TrunkPort) : List Instr × TrunkPort :=
  let r := takeFrames t.silence (t.received.length + 1) t.up t.received
  (r.1, { t with received := r.2 })

/-! ## What is due -/

/-- The rows of a line that are due: its settle interval, its waiting command, its exchange. -/
def lineDue (s : State) (l : LineNo) : List Instr :=
  (if (s.line l).state = .settling ∧ (s.line l).settleLeft = 0 then [.settleIntervalEnd l] else [])
    ++ (if (s.line l).waitDue then [.lineSettingsWaitTimeout l] else [])
    ++ (if (s.line l).replyDue then [.replyTimeout l] else [])

/-- The rows of a cabin that are due. -/
def cabinDue (s : State) (c : Cabin) : List Instr :=
  (if s.reached c.windowEnd then [.windowEnd c.data.number] else [])
    ++ (if s.reached c.overrideEnd then [.overrideEnd c.data.number] else [])

/-- A session whose gap has run out is due. -/
def sessionDue (s : State) : List Instr :=
  if s.engine.abandonedSession.isSome then [.loadGapExpiry] else []

/-- The timer rows that are due, in the order of log 1. -/
def timersDue (s : State) : List Instr :=
  (List.finRange 8).flatMap (lineDue s)
    ++ s.cabins.flatMap (cabinDue s)
    ++ (s.charge.holds.filter fun h => h.left == 0).map (fun h => .holdLapse h.tag)
    ++ (s.passage.passages.filter fun p => p.left == 0).map (fun p => .passageConfirmTimeout p.gate)
    ++ (s.referral.list.filter fun r => r.left == 0).map (fun r => .referralTimeout r.tag)
    ++ sessionDue s

/-- A commanded restart that is due, with the levels last taken (log 27). -/
def restartRow (s : State) : List Instr :=
  if s.restartDue.isSome then [.restartBegin (Vector.ofFn fun i => s.muster.inputs[i].level)] else []

/-- The line has a Poll to send. -/
def Line.wantsPoll (x : Line) : Bool := x.exchange.isNone && x.sendPoll.exchange.isSome

/-- The Polls of the lines that are free (log 11). -/
def pollsDue (s : State) : List Instr :=
  ((List.finRange 8).filter fun l => (s.line l).wantsPoll).map fun l => .poll l

/-- One millisecond (log 1): the counts, what the running clock has then reached, in the same event (R103, R192), the
next entry of a Data frame being settled (log 34), and the frames that a gap grown longer than 50 ms discards, in that
event, with those found inside them (R176; log 15). With main power off only the voyage clock runs, on the retention
supply (R187, R192; log 23). -/
def State.tick (s : State) : State :=
  if s.power.mainOn then
    let s := s.countTime.compareRunning.settleNext
    let f := s.trunk.frames
    let s := s.setTrunk f.2
    s.setPending (s.pending ++ timersDue s ++ f.1 ++ restartRow s ++ pollsDue s)
  else s.setEngine { s.engine with voyage := s.engine.voyage.advance }

end Sys2Proof.Machine
end

