-- ==== Sys2Proof/Machine/Dispatch.lean ====
section
/-! DEFINITION. The meaning of every command: one arm for each constructor. -/

namespace Sys2Proof.Machine

def exec (i : Instr) (s : State) : Host.Outcome State Fault Refusal :=
  match i with
  | .statusRead tag => Sys2Proof.Machine.execStatusRead tag s
  | .clockSet tag time => Sys2Proof.Machine.execClockSet tag time s
  | .profileSet tag fields => Sys2Proof.Machine.execProfileSet tag fields s
  | .profileRead tag => Sys2Proof.Machine.execProfileRead tag s
  | .lineSettings tag line speed replyTimeout settle => Sys2Proof.Machine.execLineSettings tag line speed replyTimeout settle s
  | .lineTestStart tag line => Sys2Proof.Machine.execLineTestStart tag line s
  | .lineTestEnd tag line => Sys2Proof.Machine.execLineTestEnd tag line s
  | .stationEnroll tag line addr kind kindData => Sys2Proof.Machine.execStationEnroll tag line addr kind kindData s
  | .stationRemove tag line addr => Sys2Proof.Machine.execStationRemove tag line addr s
  | .vesselCodesSet tag slot1 slot2 slot3 slot4 => Sys2Proof.Machine.execVesselCodesSet tag slot1 slot2 slot3 slot4 s
  | .loadOpen tag table mode => Sys2Proof.Machine.execLoadOpen tag table mode s
  | .loadClose tag => Sys2Proof.Machine.execLoadClose tag s
  | .entryRead tag table key => Sys2Proof.Machine.execEntryRead tag table key s
  | .accountWrite tag account state voyageCap dailyCap => Sys2Proof.Machine.execAccountWrite tag account state voyageCap dailyCap s
  | .cabinWrite tag cabin lockOut watch tamper => Sys2Proof.Machine.execCabinWrite tag cabin lockOut watch tamper s
  | .presenceSet tag card presence stamp => Sys2Proof.Machine.execPresenceSet tag card presence stamp s
  | .portCallOpen tag allAboard => Sys2Proof.Machine.execPortCallOpen tag allAboard s
  | .portCallClose tag => Sys2Proof.Machine.execPortCallClose tag s
  | .journalRead tag start count => Sys2Proof.Machine.execJournalRead tag start count s
  | .journalRelease tag number => Sys2Proof.Machine.execJournalRelease tag number s
  | .counterRead tag => Sys2Proof.Machine.execCounterRead tag s
  | .ashoreRead tag start => Sys2Proof.Machine.execAshoreRead tag start s
  | .musterStart tag option => Sys2Proof.Machine.execMusterStart tag option s
  | .musterEnd tag => Sys2Proof.Machine.execMusterEnd tag s
  | .musterRollRead tag => Sys2Proof.Machine.execMusterRollRead tag s
  | .unaccountedRead tag start => Sys2Proof.Machine.execUnaccountedRead tag start s
  | .alarmConfig tag input mode => Sys2Proof.Machine.execAlarmConfig tag input mode s
  | .alarmStatus tag => Sys2Proof.Machine.execAlarmStatus tag s
  | .eventRead tag count => Sys2Proof.Machine.execEventRead tag count s
  | .eventKinds tag values => Sys2Proof.Machine.execEventKinds tag values s
  | .protectionSet tag load purge rangeRewrite range => Sys2Proof.Machine.execProtectionSet tag load purge rangeRewrite range s
  | .protectionGet tag => Sys2Proof.Machine.execProtectionGet tag s
  | .protectionRelease tag => Sys2Proof.Machine.execProtectionRelease tag s
  | .restart tag option => Sys2Proof.Machine.execRestart tag option s
  | .dataFrame tag body => Sys2Proof.Machine.execDataFrame tag body s
  | .answerFrame tag verdict entry => Sys2Proof.Machine.execAnswerFrame tag verdict entry s
  | .throughDown tag line addr data => Sys2Proof.Machine.execThroughDown tag line addr data s
  | .frameCheckFailed cls kind tag => Sys2Proof.Machine.execFrameCheckFailed cls kind tag s
  | .unknownKind cls kind tag => Sys2Proof.Machine.execUnknownKind cls kind tag s
  | .malformed cls kind tag => Sys2Proof.Machine.execMalformed cls kind tag s
  | .outboundClassDiscarded cls kind tag => Sys2Proof.Machine.execOutboundClassDiscarded cls kind tag s
  | .frameGapTimeout => Sys2Proof.Machine.execFrameGapTimeout s
  | .carrierLost => Sys2Proof.Machine.execCarrierLost s
  | .carrierRegained => Sys2Proof.Machine.execCarrierRegained s
  | .restartBegin levels => Sys2Proof.Machine.execRestartBegin levels s
  | .mainPowerLost => Sys2Proof.Machine.execMainPowerLost s
  | .mainPowerApplied checkPasses levels => Sys2Proof.Machine.execMainPowerApplied checkPasses levels s
  | .retentionSupplyLow => Sys2Proof.Machine.execRetentionSupplyLow s
  | .poll line => Sys2Proof.Machine.execPoll line s
  | .replyTimeout line => Sys2Proof.Machine.execReplyTimeout line s
  | .badReply line => Sys2Proof.Machine.execBadReply line s
  | .idle station sensors => Sys2Proof.Machine.execIdle station sensors s
  | .request station sensors number content => Sys2Proof.Machine.execRequest station sensors number content s
  | .acknowledge station sensors number => Sys2Proof.Machine.execAcknowledge station sensors number s
  | .throughUp station data => Sys2Proof.Machine.execThroughUp station data s
  | .echo station data => Sys2Proof.Machine.execEcho station data s
  | .settleIntervalEnd line => Sys2Proof.Machine.execSettleIntervalEnd line s
  | .lineSettingsWaitTimeout line => Sys2Proof.Machine.execLineSettingsWaitTimeout line s
  | .windowEnd cabin => Sys2Proof.Machine.execWindowEnd cabin s
  | .overrideEnd cabin => Sys2Proof.Machine.execOverrideEnd cabin s
  | .holdLapse holdTag => Sys2Proof.Machine.execHoldLapse holdTag s
  | .passageConfirmTimeout gate => Sys2Proof.Machine.execPassageConfirmTimeout gate s
  | .referralTimeout referralTag => Sys2Proof.Machine.execReferralTimeout referralTag s
  | .loadGapExpiry => Sys2Proof.Machine.execLoadGapExpiry s
  | .dayBoundary => Sys2Proof.Machine.execDayBoundary s
  | .allAboardDue => Sys2Proof.Machine.execAllAboardDue s
  | .alarmInput input level => Sys2Proof.Machine.execAlarmInput input level s
  | .lengthNotReadable => Sys2Proof.Machine.execLengthNotReadable s

end Sys2Proof.Machine
end

