-- ==== Sys2Proof/Machine/Arrival.lean ====
section
/-! DEFINITION. What arrives from outside: the bytes of the trunk, framed as they arrive (R176), and the Replies of the
reader lines (R191). -/

namespace Sys2Proof.Machine

/-- The commands that wait are taken, one step each. -/
def State.takeQueue (s : State) : State :=
  s.pending.foldl (fun t _ => match step t with | .next u => u | _ => t) s

/-- A byte reaches the receiver, which settles at once every frame that is then complete or not readable; received while
main power is on and carrier is present (R176; log 16). -/
def State.byteTaken (s : State) (b : Byte) : State :=
  if s.power.mainOn ∧ s.trunk.carrier then
    let f := { s.trunk with received := s.trunk.received ++ [b], silence := 0 : TrunkPort }.frames
    (s.setTrunk f.2).setPending (s.pending ++ f.1)
  else s

/-- A byte arrives on the trunk, after everything that waits in the queue, which takes no time (R176). DESIGN CHOICE log
15: those commands are taken first, so that the byte finds the carrier and the trunk state as they leave them. The frame
that the byte completes joins the queue, ahead of a loss of carrier or a gap that comes later. -/
def State.receiveByte (s : State) (b : Byte) : State := s.takeQueue.byteTaken b

/-- The bytes of a Reply arrive on a reader line: their row joins the queue (R191). -/
def State.receiveReply (s : State) (line : LineNo) (bs : List Byte) : State :=
  s.setPending (s.pending ++ [readReply line bs])

end Sys2Proof.Machine
end

