-- ==== Sys2Proof/Safety.lean ====
section
/-! DEFINITION. What is kept safe: the invariants of the part that its rules state for every state it can be
in. -/

namespace Sys2Proof.Machine

/-- The Event Queue holds at most 512 records (R196). -/
def State.eventsKept (s : State) : Prop := s.events.records.length ≤ Config.maxEvents

/-- Journal records and outstanding holds share 2048 slots (R93). -/
def State.slotsKept (s : State) : Prop :=
  s.charge.journal.length + s.charge.holds.length ≤ Config.journalSlots

/-- The numbers of the records held form one unbroken ascending run that ends at the last number given, and a number
is left for every outstanding hold (R92, R93). -/
def State.journalRun (s : State) : Prop :=
  s.charge.journal.length ≤ s.charge.lastNumber ∧
  s.charge.journal.map JournalRecord.number =
    List.range' (s.charge.lastNumber + 1 - s.charge.journal.length) s.charge.journal.length ∧
  s.charge.lastNumber + s.charge.holds.length ≤ Config.maxWord32

/-- No Outbound passage is pending during Drill or Alert (R114, R141). -/
def State.noOutboundInMuster (s : State) : Prop :=
  s.muster.state ≠ .off → ∀ p ∈ s.passage.passages, p.direction = .inbound

/-- Every field of the profile in its range, and Strict not together with a passage fallback of Grant
(R194). -/
def Profile.legal (p : Profile) : Prop :=
  2 ≤ p.openWindow ∧ p.openWindow ≤ 30 ∧ 5 ≤ p.entryGrace ∧ p.entryGrace ≤ 120 ∧
  60 ≤ p.holdLifetime ∧ p.holdLifetime ≤ 1800 ∧ 1 ≤ p.terminalHoldLimit ∧ p.terminalHoldLimit ≤ 4 ∧
  3 ≤ p.confirmTimeout ∧ p.confirmTimeout ≤ 60 ∧ 1 ≤ p.referralTimeout ∧ p.referralTimeout ≤ 10 ∧
  1 ≤ p.repeatWindow ∧ p.repeatWindow ≤ 30 ∧ 1 ≤ p.missLimit ∧ p.missLimit ≤ 15 ∧
  1 ≤ p.loadGapTimeout ∧ p.loadGapTimeout ≤ 60 ∧ p.dayBoundaryHour ≤ 23 ∧
  ¬(p.countMode = .strict ∧ p.passageFallback = .grant)

/-- The Card Table holds no card number twice and at most 8192 entries (R4; held in ascending number). -/
def State.cardTableKept (s : State) : Prop :=
  ascending CardEntry.key s.cards = true ∧ s.cards.length ≤ Config.maxCards

/-- The Account Table holds no account number twice and at most 4096 entries (R66; held in ascending number). -/
def State.accountTableKept (s : State) : Prop :=
  ascending Account.number s.charge.accounts = true ∧ s.charge.accounts.length ≤ Config.maxAccounts

/-- The Cabin Table holds no cabin number twice and at most 1024 entries, and no Lock station is linked to two
cabins (R44, R46; held in ascending number). -/
def State.cabinTableKept (s : State) : Prop :=
  ascending Cabin.key s.cabins = true ∧ s.cabins.length ≤ Config.maxCabins ∧
  ∀ c ∈ s.cabins, ∀ d ∈ s.cabins, c.data.lock ≠ none → c.data.lock = d.data.lock → c.data.number = d.data.number

/-- No gate and no card has two pending passages, and the card of every tracked one is in the Card Table
(R108). -/
def State.passagesKept (s : State) : Prop :=
  s.passage.passages.Pairwise (fun p q => p.gate ≠ q.gate ∧ (p.card ≠ none → p.card ≠ q.card)) ∧
  ∀ p ∈ s.passage.passages, ∀ n, p.card = some n → (s.card? n).isSome

/-- The cards of a class group marked Mustered at a station. -/
def State.markedAt (s : State) (station : Nat) (guestJunior : Bool) : Nat :=
  (s.cards.filter fun e => e.mark == .mustered station && e.data.cls.isGuestJunior == guestJunior).length

/-- During Drill or Alert the Guest/Junior and crew counts of each station are the numbers of cards of that group
marked there, and every marked card is Aboard (R137). -/
def State.rollAgrees (s : State) : Prop :=
  ascending CardEntry.key s.cards = true ∧
  (s.muster.state ≠ .off →
    (∀ i : Fin 32, s.muster.roll[i].guestJunior = s.markedAt (i.val + 1) true ∧
      s.muster.roll[i].crew = s.markedAt (i.val + 1) false) ∧
    ∀ e ∈ s.cards, e.mark ≠ .unmarked → e.presence = .aboard)

/-- The Referral List holds at most 64 referrals, with tags of 1 to 65535 that differ and at most one a station
(R143); each one's station has the open request it came from in Deciding (R31). -/
def State.referralsKept (s : State) : Prop :=
  s.referral.list.length ≤ Config.maxReferrals ∧
  (∀ r ∈ s.referral.list, 1 ≤ r.tag ∧ r.tag ≤ Config.maxWord16) ∧
  (s.referral.list.map Referral.tag).Nodup ∧
  (s.referral.list.map fun r => r.presentation.station).Nodup ∧
  ∀ r ∈ s.referral.list, ∃ x q, s.station? r.presentation.station = some x ∧ x.openRequest = some q ∧
    q.state = .deciding ∧ q.number = r.number

/-- A Poll on the wire carries a verdict only of an open request that has one (R26, R32). -/
def State.verdictsKept (s : State) : Prop :=
  ∀ (l : LineNo) (e : Exchange) (n : Nat) (v : Verdict), (s.line l).exchange = some e → e.taken = true →
    e.content = .verdict n v → ∃ x q, s.station? { line := l, addr := e.addr } = some x ∧
      x.openRequest = some q ∧ q.state ≠ .deciding

/-- The cards of a class with a presence. -/
def State.cardsWith (s : State) (c : HolderClass) (p : Presence) : Nat :=
  (s.cards.filter fun e => e.data.cls == c && e.presence == p).length

/-- Each presence counter is the number of card entries of its class and presence (R106, R119). -/
def State.countersAgree (s : State) : Prop :=
  ascending CardEntry.key s.cards = true ∧ ∀ c p, s.passage.counters.count c p = s.cardsWith c p

/-- The amounts of the holds of an account. -/
def ChargeUnit.heldBy (c : ChargeUnit) (account : Nat) : Nat := ((c.holdsOf account).map Hold.amount).sum

/-- Every held total is the sum of the account's held amounts; spent plus held total never exceeds a cap;
hold tags are unique and at most 256 are held (R66, R72, R73). -/
def State.accountsKept (s : State) : Prop :=
  ascending Account.number s.charge.accounts = true ∧
  s.charge.holds.length ≤ Config.maxHolds ∧
  (s.charge.holds.map Hold.tag).Nodup ∧
  (∀ h ∈ s.charge.holds, (s.account? h.account).isSome) ∧
  ∀ a ∈ s.charge.accounts, a.heldTotal = s.charge.heldBy a.number ∧
    a.voyageSpent + a.heldTotal ≤ a.voyageCap ∧ a.dailySpent + a.heldTotal ≤ a.dailyCap

end Sys2Proof.Machine
end

