-- ==== Sys2Proof/WellFormed.lean ====
section
/-! DEFINITION. Well-formed commands: every operand fits the field that carries it (R189-R191), and a row
that reports a kind of frame reports one that is of that kind. A value out of its rule's range is well
formed: the block that tests the field answers it. -/

namespace Sys2Proof

/-- A number fits a count of bytes. -/
def fits (bytes n : Nat) : Bool := decide (n < 256 ^ bytes)

/-- An optional number fits a count of bytes. -/
def optFits (bytes : Nat) (x : Option Nat) : Bool := x.all (fits bytes)

/-- A list has at most as many items as its count byte tells. -/
def countFits {α : Type} (xs : List α) : Bool := decide (xs.length < 256)

/-- The six fields of a date and time fit theirs (R190). -/
def DateTime.fits (t : DateTime) : Bool :=
  Sys2Proof.fits 2 t.year && Sys2Proof.fits 1 t.month && Sys2Proof.fits 1 t.day && Sys2Proof.fits 1 t.hour
    && Sys2Proof.fits 1 t.minute && Sys2Proof.fits 1 t.second

/-- The fields of a card entry fit theirs (R163, R190). -/
def CardOffer.fits (o : CardOffer) : Bool :=
  Sys2Proof.fits 3 o.number && Sys2Proof.fits 1 o.issue && Sys2Proof.fits 1 o.cls && Sys2Proof.fits 1 o.status
    && optFits 3 o.account && countFits o.cabins && o.cabins.all (Sys2Proof.fits 2) && countFits o.zones
    && o.zones.all (Sys2Proof.fits 1) && o.window.all (fun w => w.1.fits && w.2.fits)
    && Sys2Proof.fits 1 o.musterStation && Sys2Proof.fits 1 o.search && optFits 1 o.presence

/-- The fields of Profile Set fit theirs (R194, R190). -/
def ProfileOffer.fits (o : ProfileOffer) : Bool :=
  Sys2Proof.fits 1 o.openWindow && Sys2Proof.fits 1 o.entryGrace && Sys2Proof.fits 2 o.holdLifetime
    && Sys2Proof.fits 1 o.terminalHoldLimit && Sys2Proof.fits 1 o.confirmTimeout
    && Sys2Proof.fits 1 o.referralTimeout && Sys2Proof.fits 1 o.repeatWindow && Sys2Proof.fits 1 o.missLimit
    && Sys2Proof.fits 1 o.loadGapTimeout && Sys2Proof.fits 1 o.dayBoundaryHour && Sys2Proof.fits 1 o.countMode
    && Sys2Proof.fits 1 o.openFallback && Sys2Proof.fits 1 o.passageFallback

/-- The kind part of a Presentation fits its fields (R191). -/
def KindPart.fits : KindPart → Bool
  | .none => true
  | .gesture c => Sys2Proof.fits 1 c
  | .sale a g r => Sys2Proof.fits 3 a && Sys2Proof.fits 1 g && Sys2Proof.fits 2 r
  | .direction c => Sys2Proof.fits 1 c

/-- A request record fits its fields (R191). -/
def Request.fits : Request → Bool
  | .presentation v c i p => Sys2Proof.fits 2 v && Sys2Proof.fits 3 c && Sys2Proof.fits 1 i && p.fits
  | .complete t a => Sys2Proof.fits 2 t && Sys2Proof.fits 3 a
  | .cancel t => Sys2Proof.fits 2 t
  | .passageReport o => Sys2Proof.fits 1 o

/-- A station's address fits its field. -/
def Station.fits (st : Station) : Bool := Sys2Proof.fits 1 st.addr

/-- The class and kind of a frame that is answered UNKNOWN_KIND (R178 cases 2 and 3). -/
def unknownFrame (cls kind : Nat) : Bool :=
  decide (cls ≠ 3 ∧ cls ≠ 4 ∧ cls ≠ 7 ∧ ¬(cls = 1 ∧ 1 ≤ kind ∧ kind ≤ 34)
    ∧ ¬((cls = 2 ∨ cls = 5 ∨ cls = 6) ∧ kind = 0))

/-- The class and kind of a frame that may be answered MALFORMED by the Trunk Port (R178 case 4; a Data
frame is the Command Engine's to read). -/
def malformedFrame (cls kind : Nat) : Bool :=
  decide ((cls = 1 ∧ 1 ≤ kind ∧ kind ≤ 34) ∨ ((cls = 5 ∨ cls = 6) ∧ kind = 0))

/-- The classes that the part sends and does not take (R178 case 1). -/
def outboundClass (cls : Nat) : Bool := decide (cls = 3 ∨ cls = 4 ∨ cls = 7)

/-- The bytes of pass-through data of a Through-up Reply (R41). -/
def throughData (data : List Byte) : Bool := decide (1 ≤ data.length ∧ data.length ≤ Config.maxThrough)

/-- A number in a range. -/
def within (low high n : Nat) : Bool := decide (low ≤ n ∧ n ≤ high)

/-- A command is well formed. -/
def Instr.wellFormed : Instr → Bool
  | .statusRead t => fits 2 t
  | .clockSet t x => fits 2 t && x.fits
  | .profileSet t x => fits 2 t && x.fits
  | .profileRead t => fits 2 t
  | .lineSettings t l s r i => fits 2 t && fits 1 l && fits 1 s && fits 1 r && fits 2 i
  | .lineTestStart t l => fits 2 t && fits 1 l
  | .lineTestEnd t l => fits 2 t && fits 1 l
  | .stationEnroll t l a k d => fits 2 t && fits 1 l && fits 1 a && fits 1 k && optFits 1 d
  | .stationRemove t l a => fits 2 t && fits 1 l && fits 1 a
  | .vesselCodesSet t a b c d => fits 2 t && fits 2 a && fits 2 b && fits 2 c && fits 2 d
  | .loadOpen t a m => fits 2 t && fits 1 a && fits 1 m
  | .loadClose t => fits 2 t
  | .entryRead t a k => fits 2 t && fits 1 a && (if a = 3 then fits 2 k else fits 3 k)
  | .accountWrite t a s v d => fits 2 t && fits 3 a && optFits 1 s && optFits 4 v && optFits 4 d
  | .cabinWrite t c l w m =>
    fits 2 t && fits 2 c && optFits 1 l && w.all (fun x => fits 1 x.1 && fits 1 x.2) && optFits 1 m
  | .presenceSet t c p s => fits 2 t && fits 3 c && fits 1 p && fits 4 s
  | .portCallOpen t x => fits 2 t && x.fits
  | .portCallClose t => fits 2 t
  | .journalRead t s c => fits 2 t && fits 4 s && fits 1 c
  | .journalRelease t n => fits 2 t && fits 4 n
  | .counterRead t => fits 2 t
  | .ashoreRead t s => fits 2 t && fits 3 s
  | .musterStart t o => fits 2 t && fits 1 o
  | .musterEnd t => fits 2 t
  | .musterRollRead t => fits 2 t
  | .unaccountedRead t s => fits 2 t && fits 3 s
  | .alarmConfig t i m => fits 2 t && fits 1 i && fits 1 m
  | .alarmStatus t => fits 2 t
  | .eventRead t c => fits 2 t && fits 1 c
  | .eventKinds t vs => fits 2 t && decide (vs.length = 28) && vs.all (fits 1)
  | .protectionSet t a b c r =>
    fits 2 t && fits 1 a && fits 1 b && fits 1 c && r.all (fun x => fits 3 x.1 && fits 3 x.2)
  | .protectionGet t => fits 2 t
  | .protectionRelease t => fits 2 t
  | .restart t o => fits 2 t && fits 1 o
  | .dataFrame t b => fits 2 t && decide (b.length ≤ 1024)
  | .answerFrame t _ e => fits 2 t && e.all CardOffer.fits
  | .throughDown t l a d => fits 2 t && fits 1 l && fits 1 a && decide (d.length ≤ 1022)
  | .frameCheckFailed c k t => fits 1 c && fits 1 k && fits 2 t
  | .unknownKind c k t => fits 1 c && fits 1 k && fits 2 t && unknownFrame c k
  | .malformed c k t => fits 1 c && fits 1 k && fits 2 t && malformedFrame c k
  | .outboundClassDiscarded c k t => fits 1 k && fits 2 t && outboundClass c
  | .frameGapTimeout => true
  | .carrierLost => true
  | .carrierRegained => true
  | .restartBegin _ => true
  | .mainPowerLost => true
  | .mainPowerApplied _ _ => true
  | .retentionSupplyLow => true
  | .poll _ => true
  | .replyTimeout _ => true
  | .badReply _ => true
  | .idle st _ => st.fits
  | .request st _ n q => st.fits && fits 1 n && q.fits
  | .acknowledge st _ n => st.fits && fits 1 n
  | .throughUp st d => st.fits && throughData d
  | .echo st d => st.fits && decide (d.length = 16)
  | .settleIntervalEnd _ => true
  | .lineSettingsWaitTimeout _ => true
  | .windowEnd c => within 1 Config.maxCabinNumber c
  | .overrideEnd c => within 1 Config.maxCabinNumber c
  | .holdLapse t => within 1 Config.maxWord16 t
  | .passageConfirmTimeout st => within 1 31 st.addr
  | .referralTimeout t => within 1 Config.maxWord16 t
  | .loadGapExpiry => true
  | .dayBoundary => true
  | .allAboardDue => true
  | .alarmInput _ _ => true
  | .lengthNotReadable => true

end Sys2Proof
end

