-- ==== Sys2Proof/Certificates/Slice0/Obligations.lean ====
section
/-! DEFINITION. The statements for the provers. Each says what a command, or every step, does to the whole
state: a conclusion `exec c s = .next t` gives t with every field, so what t does not change is unchanged. -/

namespace Sys2Proof.Claims

open Sys2Proof.Machine

/-! ## Words of the statements -/

/-- The Trunk Port receives frames: main power is on and carrier is present (R176, R187). -/
def receives (s : State) : Prop := s.power.mainOn = true ∧ s.trunk.carrier = true

/-- A Command or Data frame received is executed: the Command Engine is Idle (R180). -/
def takes (s : State) : Prop := receives s ∧ s.engine.state = .idle

/-- An event arises: its record arrives at the Event Queue with the voyage time, or "unset" (R196). -/
def withEvent (s : State) (r : EventRecord) : State :=
  { s with events := s.events.arrive { r with time := s.engine.voyage.time } }

/-- The state in which a good frame is taken: a Down trunk first goes Up, with Trunk Up (R153). -/
def up (s : State) : State :=
  if s.trunk.up = true then s else withEvent { s with trunk := { s.trunk with up := true } } { kind := .trunkUp }

/-- A frame joins the frames awaiting transmission, as the newest (R144, R179). -/
def withFrame (s : State) (f : OutFrame) : State :=
  { s with trunk := { s.trunk with outgoing := s.trunk.outgoing ++ [f] } }

/-- An ACCEPTED Status of a frame of a class, kind and tag is handed (R179). -/
def withStatus (s : State) (cls kind tag : Nat) (result : ExecResult) (data : StatusData := .none) : State :=
  withFrame s (.status { cls := cls, kind := kind, tag := tag, reception := .accepted, result := some result,
                         data := data })

/-- A Status with another reception result, which carries no execution result (R179). -/
def withRefusal (s : State) (cls kind tag : Nat) (reception : Reception) : State :=
  withFrame s (.status { cls := cls, kind := kind, tag := tag, reception := reception, result := none,
                         data := .none })

/-- A command's outcome with its Status: the state it leaves, the result, and the data of the result. -/
def answered (kind tag : Nat) (r : State × ExecResult × StatusData) : State :=
  withStatus r.1 1 kind tag r.2.1 r.2.2

/-- Class, kind and tag of a Command or Data frame (R182, R189); none for another row. -/
def engineFrameOf : Instr → Option (Nat × Nat × Nat)
  | .statusRead t => some (1, 1, t)
  | .clockSet t _ => some (1, 2, t)
  | .profileSet t _ => some (1, 3, t)
  | .profileRead t => some (1, 4, t)
  | .lineSettings t _ _ _ _ => some (1, 5, t)
  | .lineTestStart t _ => some (1, 6, t)
  | .lineTestEnd t _ => some (1, 7, t)
  | .stationEnroll t _ _ _ _ => some (1, 8, t)
  | .stationRemove t _ _ => some (1, 9, t)
  | .vesselCodesSet t _ _ _ _ => some (1, 10, t)
  | .loadOpen t _ _ => some (1, 11, t)
  | .loadClose t => some (1, 12, t)
  | .entryRead t _ _ => some (1, 13, t)
  | .accountWrite t _ _ _ _ => some (1, 14, t)
  | .cabinWrite t _ _ _ _ => some (1, 15, t)
  | .presenceSet t _ _ _ => some (1, 16, t)
  | .portCallOpen t _ => some (1, 17, t)
  | .portCallClose t => some (1, 18, t)
  | .journalRead t _ _ => some (1, 19, t)
  | .journalRelease t _ => some (1, 20, t)
  | .counterRead t => some (1, 21, t)
  | .ashoreRead t _ => some (1, 22, t)
  | .musterStart t _ => some (1, 23, t)
  | .musterEnd t => some (1, 24, t)
  | .musterRollRead t => some (1, 25, t)
  | .unaccountedRead t _ => some (1, 26, t)
  | .alarmConfig t _ _ => some (1, 27, t)
  | .alarmStatus t => some (1, 28, t)
  | .eventRead t _ => some (1, 29, t)
  | .eventKinds t _ => some (1, 30, t)
  | .protectionSet t _ _ _ _ => some (1, 31, t)
  | .protectionGet t => some (1, 32, t)
  | .protectionRelease t => some (1, 33, t)
  | .restart t _ => some (1, 34, t)
  | .dataFrame t _ => some (2, 0, t)
  | _ => none

/-- The rows of frames with a correct check word. -/
def isGoodFrame (c : Instr) : Bool :=
  (engineFrameOf c).isSome ||
    (match c with
      | .answerFrame _ _ _ => true
      | .throughDown _ _ _ _ => true
      | .unknownKind _ _ _ => true
      | .malformed _ _ _ => true
      | .outboundClassDiscarded _ _ _ => true
      | _ => false)

/-- The rows that may change the part while main power is off: the power rows and the carrier's. -/
def actsWhileOff : Instr → Bool
  | .mainPowerApplied _ _ => true
  | .retentionSupplyLow => true
  | .carrierLost => true
  | .carrierRegained => true
  | _ => false

end Sys2Proof.Claims

open Sys2Proof Sys2Proof.Machine Sys2Proof.Claims

/-! ## The queue, the tick, the trunk -/

/-- A step takes the command at the front of the queue and runs it on the state with the queue's rest
(95, each step is whole; the queue is the model's, log 33). -/
def Obligations.StepRunsTheFrontCommand : Prop :=
  ∀ (c : Instr) (rest : List Instr) (s : State),
    step { s with pending := c :: rest } = exec c { s with pending := rest }

/-- Every command answers a next state, and none changes the queue of the commands that wait, which is the model's
own and no state of the part (log 33; it is not the Event Queue of the spec). -/
def Obligations.EveryCommandCompletes : Prop :=
  ∀ (c : Instr) (s : State), ∃ t, exec c s = .next t ∧ t.pending = s.pending

/-- A Command or Data frame received while the Command Engine is Executing (a Command in progress, or a Data frame
whose entries are being settled, log 34) is answered ACCEPTED and BUSY with its own class, kind and tag, and nothing
else is changed but for a Down trunk going Up (R153). That a Cabin Write between two entries of a Data frame is BUSY
with the rest is the model's choice (log 36). -/
def Obligations.ExecutingEngineAnswersBusy : Prop :=
  ∀ (c : Instr) (s : State) (cls kind tag : Nat), receives s → s.engine.state ≠ .idle →
    engineFrameOf c = some (cls, kind, tag) →
    exec c s = .next (withStatus (up s) cls kind tag .busy)

/-- Frames are received only while main power is on and carrier is present (log 16), and while main power is
off no row changes the part but the power rows and the carrier's (R187). -/
def Obligations.NothingIsTakenWithoutPowerOrCarrier : Prop :=
  (∀ (c : Instr) (s : State), ¬receives s → isGoodFrame c = true → exec c s = .next s) ∧
  (∀ (c : Instr) (s : State), s.power.mainOn = false → actsWhileOff c = false → exec c s = .next s)

/-- Frames that no block takes (R176, R178, R179): CHECK with class, kind and tag as received while the
trunk is Up, nothing while it is Down; UNKNOWN_KIND; MALFORMED; and no Status for a class that the part
sends. A frame with a correct check word brings a Down trunk Up (R153). -/
def Obligations.RefusedFramesAreAnswered : Prop :=
  ∀ (s : State) (cls kind tag : Nat),
    (s.power.mainOn = true → s.trunk.up = true →
      exec (.frameCheckFailed cls kind tag) s = .next (withRefusal s cls kind tag .check)) ∧
    (s.trunk.up = false → exec (.frameCheckFailed cls kind tag) s = .next s) ∧
    (receives s →
      exec (.unknownKind cls kind tag) s = .next (withRefusal (up s) cls kind tag .unknownKind) ∧
      exec (.malformed cls kind tag) s = .next (withRefusal (up s) cls kind tag .malformed) ∧
      exec (.outboundClassDiscarded cls kind tag) s = .next (up s))

namespace Sys2Proof.Claims

/-- One day rollover: daily spent 0 in every account, the day number advances, Day Rollover with the new day
number (R85, R192). -/
def rolledOver (s : State) : State :=
  withEvent
    { s with
      charge := { s.charge with accounts := s.charge.accounts.map fun a => { a with dailySpent := 0 } }
      engine := { s.engine with
        voyage := { s.engine.voyage with day := (s.engine.voyage.day + 1) % 65536 } } }
    { kind := .dayRollover, detail := some (.dayNumber ((s.engine.voyage.day + 1) % 65536)) }

/-- The transition to Last Call, with the Ashore counts of Guest and Junior (R103). -/
def inLastCall (s : State) (allAboard : DateTime) : State :=
  withEvent { s with passage := { s.passage with port := .lastCall allAboard } }
    { kind := .allAboardDue,
      detail := some (.ashoreCounts s.passage.counters.guest.ashore s.passage.counters.junior.ashore) }

/-- A time reaches the next boundary of a clock that is set (R193). -/
def crossed (v : VoyageClock) (t : DateTime) : Prop :=
  v.time.isSome = true ∧ ∃ b, v.boundary = some b ∧ timeKey b ≤ timeKey t

/-- A time reaches the all-aboard time of a port call that is In Port (R103). -/
def reachesAllAboard (s : State) (t a : DateTime) : Prop := s.passage.port = .inPort a ∧ timeKey a ≤ timeKey t

/-- The thirteen fields as Profile Set carries them (R190, R194). -/
def offerOf (p : Profile) : ProfileOffer :=
  { openWindow := p.openWindow, entryGrace := p.entryGrace, holdLifetime := p.holdLifetime,
    terminalHoldLimit := p.terminalHoldLimit, confirmTimeout := p.confirmTimeout,
    referralTimeout := p.referralTimeout, repeatWindow := p.repeatWindow, missLimit := p.missLimit,
    loadGapTimeout := p.loadGapTimeout, dayBoundaryHour := p.dayBoundaryHour, countMode := p.countMode.code,
    openFallback := p.openFallback.code, passageFallback := p.passageFallback.code }

/-- A slot of the accepted vessel codes: 0 is an empty slot (R184). -/
def slotOf (n : Nat) : Option Nat := if n = 0 then none else some n

/-- The number of Gate stations enrolled in the part. -/
def gatesEnrolled (s : State) : Nat :=
  (s.lines.toList.map fun x => (x.stations.filter fun r => r.kind == .gate).length).sum

/-- The permission of a mode (R162). -/
def permitted (p : Protection) : LoadMode → Bool
  | .merge => p.load
  | .purge => p.purge

end Sys2Proof.Claims

/-! ## The Command Engine's own commands -/

/-- STATUS_READ changes nothing and answers OK with the items of R183. That all items stem from one moment is the
MODEL's choice (log 26): R183 lets items of different blocks stem from different moments. -/
def Obligations.StatusReadReportsEveryItem : Prop :=
  ∀ (s : State) (tag : Nat), takes s →
    exec (.statusRead tag) s = .next (withStatus (up s) 1 1 tag .ok (.items
      { lastRestart := (up s).engine.lastRestart, clockSet := (up s).engine.voyage.time.isSome,
        vesselCodes := (up s).engine.vesselCodes,
        session := (up s).engine.session.map fun x => (x.table, x.mode),
        lines := (up s).lines.toList.map Line.state, gates := gatesEnrolled (up s),
        cards := (up s).cards.length, cabins := (up s).cabins.length,
        accounts := (up s).charge.accounts.length, holds := (up s).charge.holds.length,
        records := (up s).charge.journal.length, lastNumber := (up s).charge.lastNumber,
        port := (up s).passage.port, passages := (up s).passage.passages.length,
        muster := (up s).muster.state, referrals := (up s).referral.list.length,
        events := (up s).events.records.length }))

/-- CLOCK_SET (R193, R103): a value that is not valid is refused; else the clock and the next boundary take
the value, and the rollover and the all-aboard transition are taken where the value reaches them. Where it
reaches both, either may come first (log 7). That the new second begins at the command is log 6. -/
def Obligations.ClockSetSettlesBoundaryAndAllAboard : Prop :=
  ∀ (s : State) (tag : Nat) (time : DateTime), takes s →
    let t := up s
    let c : State := { t with engine := { t.engine with voyage := { t.engine.voyage with
      time := some time, millis := 0, boundary := some (boundaryAfter t.engine.profile.dayBoundaryHour time) } } }
    let d : State := { c with free := c.free + 1 }
    (validTime time = false → exec (.clockSet tag time) s = .next (withStatus t 1 2 tag .parameter)) ∧
    (validTime time = true →
      (¬crossed t.engine.voyage time → (∀ a, ¬reachesAllAboard t time a) →
        exec (.clockSet tag time) s = .next (withStatus c 1 2 tag .ok)) ∧
      (crossed t.engine.voyage time → (∀ a, ¬reachesAllAboard t time a) →
        exec (.clockSet tag time) s = .next (withStatus (rolledOver c) 1 2 tag .ok)) ∧
      (∀ a, ¬crossed t.engine.voyage time → reachesAllAboard t time a →
        exec (.clockSet tag time) s = .next (withStatus (inLastCall c a) 1 2 tag .ok)) ∧
      (∀ a, crossed t.engine.voyage time → reachesAllAboard t time a →
        exec (.clockSet tag time) s = .next (withStatus (inLastCall (rolledOver d) a) 1 2 tag .ok) ∨
        exec (.clockSet tag time) s = .next (withStatus (rolledOver (inLastCall d a)) 1 2 tag .ok)))

/-- PROFILE_SET takes every legal profile, with the next boundary recomputed and no rollover, and refuses every
other value PARAMETER; PROFILE_READ answers the thirteen fields (R194). VESSEL_CODES_SET is refused when two
slots that are not empty carry one code, else all four slots take the values (R184). -/
def Obligations.ProfileAndVesselCodesAreSet : Prop :=
  (∀ (s : State) (tag : Nat), takes s →
    let t := up s
    (∀ p : Profile, p.legal → exec (.profileSet tag (offerOf p)) s =
      .next (withStatus { t with engine := { t.engine with
          profile := p
          voyage := { t.engine.voyage with
            boundary := t.engine.voyage.time.map (boundaryAfter p.dayBoundaryHour) } } } 1 3 tag .ok)) ∧
    (∀ o : ProfileOffer, (∀ p : Profile, p.legal → offerOf p ≠ o) →
      exec (.profileSet tag o) s = .next (withStatus t 1 3 tag .parameter)) ∧
    exec (.profileRead tag) s = .next (withStatus t 1 4 tag .ok (.profile t.engine.profile))) ∧
  (∀ (s : State) (tag a b c d : Nat), takes s →
    let t := up s
    exec (.vesselCodesSet tag a b c d) s = .next (answered 10 tag (
      if ([a, b, c, d].filter fun n => n != 0).Nodup then
        ({ t with engine := { t.engine with vesselCodes := #v[slotOf a, slotOf b, slotOf c, slotOf d] } },
          .ok, .none)
      else (t, .parameter, .none))))

/-- LOAD_OPEN, the first case of R160 that applies, and LOAD_CLOSE (R167): NOT_OPEN without a session, else the
session is Closed and its totals are answered. -/
def Obligations.LoadSessionsOpenAndClose : Prop :=
  (∀ (s : State) (tag table mode : Nat), takes s →
    let t := up s
    exec (.loadOpen tag table mode) s = .next (answered 11 tag (
      match readTable table, readMode mode with
      | some tb, some m =>
        if t.engine.session.isSome then (t, .busy, .none)
        else if permitted t.engine.protection m = false then (t, .protect, .none)
        else
          ({ t with engine := { t.engine with
              session := some { table := tb, mode := m, applied := 0, refused := 0,
                                gap := t.engine.profile.loadGapTimeout * 1000 } } }, .ok, .none)
      | _, _ => (t, .parameter, .none)))) ∧
  (∀ (s : State) (tag : Nat), takes s →
    let t := up s
    exec (.loadClose tag) s = .next (answered 12 tag (
      match t.engine.session with
      | none => (t, .notOpen, .none)
      | some x =>
        ({ t with engine := { t.engine with session := none } }, .ok,
          .totals x.table x.mode x.applied x.refused))))

/-- ENTRY_READ (R170) changes nothing: PARAMETER, NOT_FOUND, or the whole entry with times as time left. -/
def Obligations.EntryReadReturnsTheWholeEntry : Prop :=
  ∀ (s : State) (tag table key : Nat), takes s →
    let t := up s
    exec (.entryRead tag table key) s = .next (
      match readTable table with
      | none => withStatus t 1 13 tag .parameter
      | some .card =>
        if 1 ≤ key ∧ key ≤ 16777215 then
          match t.cards.find? fun e => e.data.number == key with
          | some e => withStatus t 1 13 tag .ok (.card e)
          | none => withStatus t 1 13 tag .notFound
        else withStatus t 1 13 tag .parameter
      | some .account =>
        if 1 ≤ key ∧ key ≤ 999999 then
          match t.charge.accounts.find? fun a => a.number == key with
          | some a => withStatus t 1 13 tag .ok (.account a (t.charge.holds.filter fun h => h.account == key))
          | none => withStatus t 1 13 tag .notFound
        else withStatus t 1 13 tag .parameter
      | some .cabin =>
        if 1 ≤ key ∧ key ≤ 9999 then
          match t.cabins.find? fun c => c.data.number == key with
          | some c => withStatus t 1 13 tag .ok (.cabin c (c.windowEnd.map fun e => e - t.timebase)
              (c.overrideEnd.map fun e => e - t.timebase))
          | none => withStatus t 1 13 tag .notFound
        else withStatus t 1 13 tag .parameter)

/-- PROTECTION_SET, the first case of R172 that applies: on OK the permissions and the range take the values
carried. PROTECTION_RELEASE (R173) restores every permission and removes the range when the Card Table is empty,
and is refused IN_USE otherwise. PROTECTION_GET (R171) answers the record and the number of cards. -/
def Obligations.ProtectionCommandsWithdrawRestoreReport : Prop :=
  (∀ (s : State) (tag load purge rewrite : Nat) (range : Option (Nat × Nat)), takes s →
    let t := up s
    let p := t.engine.protection
    exec (.protectionSet tag load purge rewrite range) s = .next (answered 31 tag (
      match readPermission load, readPermission purge, readPermission rewrite with
      | some lo, some pu, some rr =>
        if (range.any fun r => !decide (1 ≤ r.1 ∧ r.1 ≤ r.2 ∧ r.2 ≤ 16777215)) = true then (t, .parameter, .none)
        else if (lo = true ∧ p.load = false) ∨ (pu = true ∧ p.purge = false)
            ∨ (rr = true ∧ p.rangeRewrite = false) then (t, .protect, .none)
        else if range ≠ p.range ∧ p.rangeRewrite = false then (t, .protect, .none)
        else
          ({ t with engine := { t.engine with
              protection := { load := lo, purge := pu, rangeRewrite := rr, range := range } } }, .ok, .none)
      | _, _, _ => (t, .parameter, .none)))) ∧
  (∀ (s : State) (tag : Nat), takes s →
    let t := up s
    (t.cards = [] → exec (.protectionRelease tag) s =
      .next (withStatus { t with engine := { t.engine with
        protection := { load := true, purge := true, rangeRewrite := true, range := none } } } 1 33 tag .ok)) ∧
    (t.cards ≠ [] → exec (.protectionRelease tag) s = .next (withStatus t 1 33 tag .inUse)) ∧
    exec (.protectionGet tag) s =
      .next (withStatus t 1 32 tag .ok (.protection t.engine.protection t.cards.length)))

/-- RESTART (R186): an option outside the list is refused; else the Status is handed with OK and the Command
Engine stays Executing with the option. -/
def Obligations.RestartStaysExecuting : Prop :=
  ∀ (s : State) (tag option : Nat), takes s →
    let t := up s
    exec (.restart tag option) s = .next (
      match readRestartOption option with
      | none => withStatus t 1 34 tag .parameter
      | some k => withStatus { t with engine := { t.engine with
          state := .executing 34 tag, restartOption := some k } } 1 34 tag .ok)

/-- EVENT_READ (R198): up to `count` of the oldest records are removed and answered with the number still held; a
count outside 1 to 8 is refused. EVENT_KINDS (R196): one value Enabled (1) or Disabled (2) for each of the 28 kinds
replaces all enables, anything else is refused and no enable changes; records held are kept. -/
def Obligations.EventCommandsReadAndReplaceEnables : Prop :=
  (∀ (s : State) (tag count : Nat), takes s →
    let t := up s
    (1 ≤ count → count ≤ 8 → exec (.eventRead tag count) s =
      .next (withStatus { t with events := { t.events with records := t.events.records.drop count } } 1 29 tag .ok
        (.events (t.events.records.take count) (t.events.records.length - count)))) ∧
    (count = 0 ∨ 8 < count → exec (.eventRead tag count) s = .next (withStatus t 1 29 tag .parameter))) ∧
  (∀ (s : State) (tag : Nat), takes s →
    let t := up s
    (∀ e : Vector Bool 28, exec (.eventKinds tag (e.toList.map fun b => if b then 1 else 2)) s =
      .next (withStatus { t with events := { t.events with enables := e } } 1 30 tag .ok)) ∧
    (∀ values : List Nat, (values.length ≠ 28 ∨ ∃ v ∈ values, v ≠ 1 ∧ v ≠ 2) →
      exec (.eventKinds tag values) s = .next (withStatus t 1 30 tag .parameter)))

/-- The arrival of a record at the Event Queue, each row of R197; a record of a disabled kind changes
nothing (R196). The rule gives no row for 512 records of which the newest is not Overflow (log 22). -/
def Obligations.EventArrivalFollowsTheRecordsHeld : Prop :=
  ∀ (q : EventQueue) (r : EventRecord),
    (q.enables[r.kind.index] = false → q.arrive r = q) ∧
    (q.enables[r.kind.index] = true →
      (q.records.length ≤ 510 → q.arrive r = { q with records := q.records ++ [r] }) ∧
      (q.records.length = 511 → q.enables[EventKind.overflow.index] = true →
        q.arrive r = { q with records := q.records ++
          [{ kind := .overflow, time := r.time, detail := some (.discarded 1) }] }) ∧
      (q.records.length = 511 → q.enables[EventKind.overflow.index] = false → q.arrive r = q) ∧
      (∀ (rs : List EventRecord) (last : EventRecord) (n : Nat), q.records = rs ++ [last] →
        rs.length = 511 → last.kind = .overflow → last.detail = some (.discarded n) →
        q.arrive r = { q with records := rs ++ [{ last with detail := some (.discarded (min (n + 1) 65535)) }] }))

namespace Sys2Proof.Claims

/-- The presence counters after a card of a class moves from one presence to another (R106): equal presences
move nothing. -/
def moved (c : Counters) (k : HolderClass) (p q : Presence) : Counters :=
  if p = q then c else (c.lower k p).raise k q

/-- A card's entry takes a presence and a stamp, and the counters move (R105, R106). -/
def withPresence (s : State) (e : CardEntry) (p : Presence) (stamp : Nat) : State :=
  { s with
    cards := put CardEntry.key { e with presence := p, stamp := stamp } s.cards
    passage := { s.passage with counters := moved s.passage.counters e.data.cls e.presence p } }

/-- The stamp of a local commit (R105): one more than the stamp found, which stays at 4,294,967,295. -/
def stampAfter (n : Nat) : Nat := if n < 4294967295 then n + 1 else 4294967295

/-- The numbers of the cards that satisfy a test at or above a start, in ascending order. -/
def numbersFrom (cards : List CardEntry) (test : CardEntry → Bool) (start : Nat) : List Nat :=
  (cards.filter fun e => test e && decide (start ≤ e.data.number)).map fun e => e.data.number

/-- A page of numbers: the first 32, and the next start, which is one above the last number of the page when
more remain (R120, R139). -/
def pageOf (ns : List Nat) (total : Nat) : StatusData :=
  .page (ns.take 32) (if 32 < ns.length then (ns.take 32).getLast?.map (· + 1) else none) total

/-- The passage pending at a gate, if one is, is abandoned: its record is removed, with Passage Abandoned
(R111, R113, R114, R121). -/
def passageAbandoned (s : State) (gate : Station) (why : Detail) : State :=
  match s.passage.passages.find? fun q => q.gate == gate with
  | none => s
  | some p =>
    withEvent { s with passage := { s.passage with passages := s.passage.passages.filter fun q => q.gate != gate } }
      { kind := .passageAbandoned, station := some gate, card := p.card, detail := some why }

/-- The passages of a list are abandoned one after another, detail muster (R114). -/
def abandonedInMuster : List Passage → State → State
  | [], s => s
  | p :: ps, s => abandonedInMuster ps (passageAbandoned s p.gate .abandonedMuster)

/-- Entry to Drill or Alert from Off (R126): state, marks, roll and times, then Muster Started, then the
pending Outbound passages abandoned in the order of line and address. -/
def musterEntered (s : State) (entered : MusterState) (started : Detail) : State :=
  abandonedInMuster (s.passage.passages.filter fun p => p.direction == .outbound)
    (withEvent
      { s with
        muster := { s.muster with
          state := entered, startTime := some s.engine.voyage.time
          alertTime := if entered = .alert then some s.engine.voyage.time else none
          roll := Vector.replicate 32 { guestJunior := 0, crew := 0, unlisted := 0 } }
        cards := s.cards.map fun e => { e with mark := .unmarked } }
      { kind := .musterStarted, detail := some started })

/-- Escalation from Drill to Alert (R127). -/
def musterEscalated (s : State) (how : Detail) : State :=
  withEvent { s with muster := { s.muster with state := .alert, alertTime := some s.engine.voyage.time } }
    { kind := .musterEscalated, detail := some how }

/-- A condition of an input (R129, R130): its seen flag is set; one that is not Disabled queues Alarm Input
and then enters or escalates the muster. -/
def conditionOccurred (s : State) (i : Fin 4) : State :=
  let t : State := { s with muster := { s.muster with
    inputs := s.muster.inputs.set i { s.muster.inputs[i] with seen := true } } }
  if s.muster.inputs[i].mode = .disabled then t
  else
    let u := withEvent t { kind := .alarmInput, detail := some (.input (i.val + 1)) }
    match s.muster.state with
    | .off => musterEntered u .alert (.input (i.val + 1))
    | .drill => musterEscalated u (.input (i.val + 1))
    | .alert => u

/-- A level mode whose level is the one asserted (R129, third column). -/
def asserted (x : AlarmInput) : Prop :=
  (x.mode = .levelHigh ∧ x.level = true) ∨ (x.mode = .levelLow ∧ x.level = false)

/-- The card is Aboard and Unmarked (R139). -/
def isUnaccounted (e : CardEntry) : Bool := e.presence == .aboard && e.mark == .unmarked

end Sys2Proof.Claims

/-! ## Port calls, presence, counts -/

/-- PORT_CALL_OPEN, the first case of R102 that applies; from At Sea both untracked counts become 0. PORT_CALL_CLOSE
(R104): BUSY with a passage pending, OK otherwise, and nothing is changed at sea. That an all-aboard time outside
2000 to 2099 is refused PARAMETER is the model's reading (log 19). -/
def Obligations.PortCallsOpenAndClose : Prop :=
  (∀ (s : State) (tag : Nat) (time : DateTime), takes s →
    let t := up s
    exec (.portCallOpen tag time) s = .next (answered 17 tag (
      if validTime time = false then (t, .parameter, .none)
      else
        match t.engine.voyage.time with
        | none => (t, .parameter, .none)
        | some now =>
          if timeKey time ≤ timeKey now then (t, .parameter, .none)
          else if t.passage.port = .atSea then
            ({ t with passage := { t.passage with port := .inPort time, untrackedIn := 0, untrackedOut := 0 } },
              .ok, .none)
          else ({ t with passage := { t.passage with port := .inPort time } }, .ok, .none)))) ∧
  (∀ (s : State) (tag : Nat), takes s →
    let t := up s
    exec (.portCallClose tag) s = .next (answered 18 tag (
      if t.passage.port = .atSea then (t, .ok, .none)
      else if t.passage.passages = [] then ({ t with passage := { t.passage with port := .atSea } }, .ok, .none)
      else (t, .busy, .none))))

/-- PRESENCE_SET, the first case of R116 that applies; STALE carries the entry's stamp. -/
def Obligations.PresenceSetNeedsAHigherStamp : Prop :=
  ∀ (s : State) (tag card presence stamp : Nat), takes s →
    let t := up s
    exec (.presenceSet tag card presence stamp) s = .next (answered 16 tag (
      match readPresence presence with
      | none => (t, .parameter, .none)
      | some p =>
        if ¬(1 ≤ card ∧ card ≤ 16777215 ∧ stamp ≤ 4294967295) then (t, .parameter, .none)
        else
          match t.card? card with
          | none => (t, .notFound, .none)
          | some e =>
            if stamp ≤ e.stamp then (t, .stale, .stamp e.stamp)
            else if t.muster.state ≠ .off ∧ e.mark ≠ .unmarked ∧ p ≠ .aboard then (t, .inUse, .none)
            else (withPresence t e p stamp, .ok, .none)))

/-- COUNTER_READ (R119) and MUSTER_ROLL_READ (R138) answer the counts of their unit; ASHORE_READ (R120) and
UNACCOUNTED_READ (R139) answer a page of at most 32 numbers at or above the start in the order of the Card Table, the
next start, and the total, or refuse a start out of range. That the table stands in ascending number, so that the
page does, is the model's choice (log 24; EveryStepKeepsTablesAndCapacities keeps it). All four change nothing. -/
def Obligations.CountAndPageReadsAnswerAndChangeNothing : Prop :=
  (∀ (s : State) (tag : Nat), takes s →
    let t := up s
    exec (.counterRead tag) s = .next (withStatus t 1 21 tag .ok
      (.counters t.passage.counters t.passage.untrackedIn t.passage.untrackedOut t.passage.port
        t.passage.passages.length)) ∧
    exec (.musterRollRead tag) s = .next (withStatus t 1 25 tag .ok
      (.roll t.muster.state t.muster.startTime t.muster.alertTime t.muster.roll
        (t.muster.roll.toList.map fun r => r.guestJunior + r.crew).sum
        (t.muster.roll.toList.map fun r => r.unlisted).sum
        (t.cards.filter isUnaccounted).length))) ∧
  (∀ (s : State) (tag start : Nat), takes s →
    let t := up s
    (1 ≤ start → start ≤ 16777215 →
      exec (.ashoreRead tag start) s = .next (withStatus t 1 22 tag .ok
        (pageOf (numbersFrom t.cards (fun e => e.presence == .ashore) start)
          (t.passage.counters.guest.ashore + t.passage.counters.junior.ashore + t.passage.counters.crew.ashore
            + t.passage.counters.steward.ashore + t.passage.counters.officer.ashore))) ∧
      exec (.unaccountedRead tag start) s = .next (withStatus t 1 26 tag .ok
        (pageOf (numbersFrom t.cards isUnaccounted start) (t.cards.filter isUnaccounted).length))) ∧
    (start = 0 ∨ 16777215 < start →
      exec (.ashoreRead tag start) s = .next (withStatus t 1 22 tag .parameter) ∧
      exec (.unaccountedRead tag start) s = .next (withStatus t 1 26 tag .parameter)))

/-! ## Muster and alarm inputs -/

/-- MUSTER_START (R125) with the entry of R126 and the escalation of R127; MUSTER_END, the first case of R128 that
applies: Muster Ended carries the Unaccounted, and marks, roll and times are kept. -/
def Obligations.MusterStartAndMusterEnd : Prop :=
  (∀ (s : State) (tag option : Nat), takes s →
    let t := up s
    exec (.musterStart tag option) s = .next (answered 23 tag (
      match readMusterOption option, t.muster.state with
      | none, _ => (t, .parameter, .none)
      | some m, .off => (musterEntered t m (.option m), .ok, .none)
      | some .alert, .drill => (musterEscalated t (.option .alert), .ok, .none)
      | some _, _ => (t, .parameter, .none)))) ∧
  (∀ (s : State) (tag : Nat), takes s →
    let t := up s
    (t.muster.state = .off → exec (.musterEnd tag) s = .next (withStatus t 1 24 tag .ok)) ∧
    (t.muster.state ≠ .off → (∃ i : Fin 4, asserted t.muster.inputs[i]) →
      exec (.musterEnd tag) s = .next (withStatus t 1 24 tag .busy)) ∧
    (t.muster.state ≠ .off → (¬∃ i : Fin 4, asserted t.muster.inputs[i]) →
      exec (.musterEnd tag) s = .next (withStatus
        (withEvent { t with muster := { t.muster with state := .off } }
          { kind := .musterEnded, detail := some (.unaccounted (t.cards.filter isUnaccounted).length) })
        1 24 tag .ok)))

/-- ALARM_CONFIG (R131): the mode is replaced, seen flag and level kept; a level mode that finds its level asserted has
its condition at once; an input or a mode out of range is refused. ALARM_STATUS (R132): mode, level and seen flag of
every input as they stood; then every flag is clear. ALARM_INPUT (R129, R130): a change of the level is stored, and
the condition of the input's mode acts; a level that stays gives nothing. -/
def Obligations.AlarmInputsFollowTheirModes : Prop :=
  (∀ (s : State) (tag : Nat), takes s →
    let t := up s
    (∀ (i : Fin 4) (m : AlarmMode),
      let u : State := { t with muster := { t.muster with
        inputs := t.muster.inputs.set i { t.muster.inputs[i] with mode := m } } }
      (asserted { t.muster.inputs[i] with mode := m } →
        exec (.alarmConfig tag (i.val + 1) m.code) s = .next (withStatus (conditionOccurred u i) 1 27 tag .ok)) ∧
      (¬asserted { t.muster.inputs[i] with mode := m } →
        exec (.alarmConfig tag (i.val + 1) m.code) s = .next (withStatus u 1 27 tag .ok))) ∧
    (∀ input mode : Nat, (input = 0 ∨ 4 < input ∨ mode = 0 ∨ 5 < mode) →
      exec (.alarmConfig tag input mode) s = .next (withStatus t 1 27 tag .parameter))) ∧
  (∀ (s : State) (tag : Nat), takes s →
    let t := up s
    exec (.alarmStatus tag) s = .next (withStatus
      { t with muster := { t.muster with
          inputs := Vector.ofFn fun i => { t.muster.inputs[i] with seen := false } } }
      1 28 tag .ok (.inputs t.muster.inputs))) ∧
  (∀ (s : State) (i : Fin 4) (level : Bool), s.power.mainOn = true →
    let x := s.muster.inputs[i]
    let y : AlarmInput := { x with level := level }
    let u : State := { s with muster := { s.muster with inputs := s.muster.inputs.set i y } }
    (x.level = level → exec (.alarmInput i level) s = .next s) ∧
    (x.level ≠ level →
      (x.mode = .disabled ∨ (level = true ∧ (x.mode = .risingEdge ∨ x.mode = .levelHigh)) ∨
          (level = false ∧ (x.mode = .fallingEdge ∨ x.mode = .levelLow)) →
        exec (.alarmInput i level) s = .next (conditionOccurred u i)) ∧
      ((level = true ∧ (x.mode = .fallingEdge ∨ x.mode = .levelLow)) ∨
          (level = false ∧ (x.mode = .risingEdge ∨ x.mode = .levelHigh)) →
        exec (.alarmInput i level) s = .next u)))

/-! ## Accounts, holds and the journal -/

/-- ACCOUNT_WRITE, the first case of R70 that applies; on OK every part carried is applied. -/
def Obligations.AccountWriteAppliesAllOrNothing : Prop :=
  ∀ (s : State) (tag account : Nat) (state voyageCap dailyCap : Option Nat), takes s →
    let t := up s
    exec (.accountWrite tag account state voyageCap dailyCap) s = .next (answered 14 tag (
      if ¬(1 ≤ account ∧ account ≤ 999999) ∨ (state = none ∧ voyageCap = none ∧ dailyCap = none)
          ∨ (state.any fun n => readAccountState n == none) ∨ (voyageCap.any fun n => decide (99999999 < n))
          ∨ (dailyCap.any fun n => decide (99999999 < n)) then (t, .parameter, .none)
      else
        match t.account? account with
        | none => (t, .notFound, .none)
        | some a =>
          if voyageCap.any fun n => decide (n < a.voyageSpent + a.heldTotal) then (t, .parameter, .none)
          else if dailyCap.any fun n => decide (n < a.dailySpent + a.heldTotal) then (t, .parameter, .none)
          else if (state.bind readAccountState) = some .closed ∧ ∃ h ∈ t.charge.holds, h.account = account then
            (t, .inUse, .none)
          else
            let b : Account :=
              { a with
                state := (state.bind readAccountState).getD a.state
                voyageCap := voyageCap.getD a.voyageCap
                dailyCap := dailyCap.getD a.dailyCap }
            ({ t with charge := { t.charge with accounts := put Account.number b t.charge.accounts } },
              .ok, .none)))

/-- JOURNAL_READ (R95, R96) changes nothing and answers up to `count` records numbered from the start on, with the
oldest number held and the last number given. JOURNAL_RELEASE (R97): a number out of range or above the last given
is refused; else every record numbered so or lower leaves, and the Status carries how many and the oldest left. -/
def Obligations.JournalReadAndRelease : Prop :=
  (∀ (s : State) (tag start count : Nat), takes s →
    let t := up s
    (1 ≤ start → start ≤ 4294967295 → 1 ≤ count → count ≤ 16 →
      exec (.journalRead tag start count) s = .next (withStatus t 1 19 tag .ok (.journal
        ((t.charge.journal.filter fun r => decide (start ≤ r.number)).take count)
        (match t.charge.journal with | [] => 0 | r :: _ => r.number) t.charge.lastNumber))) ∧
    (start = 0 ∨ 4294967295 < start ∨ count = 0 ∨ 16 < count →
      exec (.journalRead tag start count) s = .next (withStatus t 1 19 tag .parameter))) ∧
  (∀ (s : State) (tag n : Nat), takes s →
    let t := up s
    let kept := t.charge.journal.filter fun r => decide (n < r.number)
    (n = 0 ∨ 4294967295 < n ∨ t.charge.lastNumber < n →
      exec (.journalRelease tag n) s = .next (withStatus t 1 20 tag .parameter)) ∧
    (1 ≤ n → n ≤ 4294967295 → n ≤ t.charge.lastNumber →
      exec (.journalRelease tag n) s = .next (withStatus
        { t with charge := { t.charge with journal := kept } } 1 20 tag .ok
        (.released (t.charge.journal.length - kept.length)
          (match kept with | [] => 0 | r :: _ => r.number)))))

namespace Sys2Proof.Claims

/-- The entries of a Data frame settled one after another, with the results in the order carried (R161). -/
def settledInOrder (mode : LoadMode) (es : List DataEntry) (s : State) : State × List ExecResult :=
  es.foldl (fun r e => let q := settleEntry r.1 mode e; (q.1, r.2 ++ [q.2])) (s, [])

/-- The last entry of a Data frame has been settled (R161, R180): the totals rise, the remaining gap is set again, the
Status is handed and the Command Engine is Idle. -/
def dataEnded (s : State) (tag : Nat) (results : List ExecResult) : State :=
  let t : State := { s with engine := { s.engine with
    state := .idle
    session := s.engine.session.map fun x => { x with
      applied := min (x.applied + (results.filter fun q => q == .ok).length) 4294967295
      refused := min (x.refused + (results.filter fun q => q != .ok).length) 4294967295
      gap := s.engine.profile.loadGapTimeout * 1000 } } }
  if s.trunk.up then withStatus t 2 0 tag .ok (.entries results) else t

/-- The next entry of the Data frame being settled is settled, and with the last the frame ends (R161, R162); nothing
where no frame is being settled. -/
def entryTaken (s : State) : State :=
  match s.engine.state with
  | .loading ⟨tag, mode, e :: es, results⟩ =>
    let q := settleEntry s mode e
    if es = [] then dataEnded q.1 tag (results ++ [q.2])
    else { q.1 with engine := { q.1.engine with state := .loading ⟨tag, mode, es, results ++ [q.2]⟩ } }
  | .loading ⟨tag, _, [], results⟩ => dataEnded s tag results
  | _ => s

/-- The bytes of a Card Merge entry (R163, R190). -/
def cardOfferBytes (o : CardOffer) : List Byte :=
  numBytes 3 o.number ++ oneByte o.issue ++ oneByte o.cls ++ oneByte o.status ++ optBytes (numBytes 3) o.account
    ++ (oneByte o.cabins.length ++ o.cabins.flatMap (numBytes 2)) ++ (oneByte o.zones.length ++ o.zones.flatMap oneByte)
    ++ optBytes (fun w : DateTime × DateTime => dateBytes w.1 ++ dateBytes w.2) o.window
    ++ oneByte o.musterStation ++ oneByte o.search ++ optBytes oneByte o.presence

/-- The table and the mode of a Data entry, and its bytes (R163-R166, R190; log 20). -/
def entryForm : DataEntry → TableName × LoadMode × List Byte
  | .cardMerge o => (.card, .merge, cardOfferBytes o)
  | .cardPurge n => (.card, .purge, numBytes 3 n)
  | .accountMerge o => (.account, .merge,
      numBytes 3 o.number ++ oneByte o.state ++ numBytes 4 o.voyageCap ++ numBytes 4 o.dailyCap
        ++ optBytes (numBytes 4) o.voyageSpent ++ optBytes (numBytes 4) o.dailySpent)
  | .accountPurge n => (.account, .purge, numBytes 3 n)
  | .cabinMerge o => (.cabin, .merge,
      numBytes 2 o.number ++ oneByte o.zone ++ oneByte o.pattern ++ oneByte o.mask ++ oneByte o.tamper
        ++ optBytes (fun x : Nat × Nat => oneByte x.1 ++ oneByte x.2) o.lock ++ optBytes oneByte o.openMask)
  | .cabinPurge n => (.cabin, .purge, numBytes 2 n)

/-- Every field of a Data entry fits its bytes. -/
def entryFits : DataEntry → Prop
  | .cardMerge o => o.fits = true
  | .cardPurge n => n < 16777216
  | .accountMerge o =>
    o.number < 16777216 ∧ o.state < 256 ∧ o.voyageCap < 4294967296 ∧ o.dailyCap < 4294967296 ∧
    (∀ n ∈ o.voyageSpent, n < 4294967296) ∧ ∀ n ∈ o.dailySpent, n < 4294967296
  | .accountPurge n => n < 16777216
  | .cabinMerge o =>
    o.number < 65536 ∧ o.zone < 256 ∧ o.pattern < 256 ∧ o.mask < 256 ∧ o.tamper < 256 ∧
    (∀ x ∈ o.lock, x.1 < 256 ∧ x.2 < 256) ∧ ∀ n ∈ o.openMask, n < 256
  | .cabinPurge n => n < 65536

/-- The protected card range stands against a card number (R171). -/
def fenced (s : State) (n : Nat) : Prop :=
  s.engine.protection.rangeRewrite = false ∧ ∃ a b, s.engine.protection.range = some (a, b) ∧ a ≤ n ∧ n ≤ b

/-- The card has an outstanding hold (R11). -/
def cardInUse (s : State) (n : Nat) : Prop := ∃ h ∈ s.charge.holds, h.card = n

/-- An entry comes into the Card Table with stamp 0 and mark Unmarked, and its counter rises (R9). -/
def cardInserted (s : State) (d : CardData) (p : Presence) : State :=
  { s with
    cards := put CardEntry.key { data := d, presence := p, stamp := 0, mark := .unmarked } s.cards
    passage := { s.passage with counters := s.passage.counters.raise d.cls p } }

/-- The roll after a class change of a card during Drill or Alert (R137): a Mustered card whose group changes
is counted in its new group. -/
def rollMoved (s : State) (e : CardEntry) (cls : HolderClass) : MusterUnit :=
  match e.mark with
  | .unmarked => s.muster
  | .mustered st =>
    if s.muster.state ≠ .off ∧ e.data.cls.isGuestJunior ≠ cls.isGuestJunior then
      (s.muster.lowerRoll st e.data.cls).raiseRoll st cls
    else s.muster

/-- An entry takes the fields a rewrite brings and keeps presence, stamp and mark; a class change moves the
counters and, during muster, the roll (R9, R137). -/
def cardRewritten (s : State) (e : CardEntry) (d : CardData) : State :=
  { s with
    cards := put CardEntry.key { e with data := d } s.cards
    passage := { s.passage with
      counters := if e.data.cls = d.cls then s.passage.counters
        else (s.passage.counters.lower e.data.cls e.presence).raise d.cls e.presence }
    muster := if e.data.cls = d.cls then s.muster else rollMoved s e d.cls }

/-- An entry leaves the Card Table and its counter falls (R9). -/
def cardRemoved (s : State) (e : CardEntry) : State :=
  { s with
    cards := s.cards.filter fun x => x.data.number != e.data.number
    passage := { s.passage with counters := s.passage.counters.lower e.data.cls e.presence } }

/-- The fields of a card entry as carried (R163, R190). -/
def cardOffered (o : CardOffer) (d : CardData) : Prop :=
  o.number = d.number ∧ o.issue = d.issue ∧ o.cls = d.cls.code ∧ o.status = d.status.code ∧
  o.account = d.account ∧ o.cabins = d.cabins ∧ o.zones = d.zones ∧ o.window = d.window ∧
  o.musterStation = d.musterStation ∧ o.search = if d.search then 1 else 2

/-- A well-formed card entry (R4, R8). -/
def cardWellFormed (d : CardData) : Prop :=
  1 ≤ d.number ∧ d.number ≤ 16777215 ∧ d.issue ≤ 255 ∧
  (∀ a ∈ d.account, 1 ≤ a ∧ a ≤ 999999) ∧
  (∀ n ∈ d.cabins, 1 ≤ n ∧ n ≤ 9999) ∧ d.cabins.length ≤ 4 ∧ d.cabins.Nodup ∧
  (∀ z ∈ d.zones, 1 ≤ z ∧ z ≤ 16) ∧ d.zones.length ≤ 4 ∧ d.zones.Nodup ∧
  (∀ w ∈ d.window, validTime w.1 = true ∧ validTime w.2 = true ∧ timeKey w.1 ≤ timeKey w.2) ∧
  1 ≤ d.musterStation ∧ d.musterStation ≤ 32 ∧
  (d.search = true → d.cls = .crew ∨ d.cls = .officer)

/-- The code of a set of lock sensors: the four lowest bits of a byte (R191). -/
def sensorCode (x : Sensors) : Nat :=
  (if x.leafClosed then 1 else 0) + (if x.boltThrown then 2 else 0) + (if x.privacyKnob then 4 else 0)
    + (if x.tamperCover then 8 else 0)

/-- The fields of a cabin entry as carried (R166, R190). -/
def cabinOffered (o : CabinOffer) (d : CabinData) : Prop :=
  o.number = d.number ∧ o.zone = d.zone ∧ o.pattern = sensorCode d.pattern ∧ o.mask = sensorCode d.mask ∧
  o.tamper = (match d.tamper with | .none => 1 | .lockOut => 2) ∧
  o.lock = d.lock.map (fun st => (st.line.val, st.addr)) ∧ o.openMask = d.openMask.map sensorCode

/-- Tests 1 and 2 and the range half of test 3 of R46. -/
def cabinWellFormed (d : CabinData) : Prop :=
  1 ≤ d.number ∧ d.number ≤ 9999 ∧ 1 ≤ d.zone ∧ d.zone ≤ 16 ∧
  (∀ m ∈ d.openMask, m.leafClosed = false ∧ m.boltThrown = false) ∧
  ∀ st ∈ d.lock, 1 ≤ st.addr ∧ st.addr ≤ 31

/-- A set of lock sensors compared with a word under the mask in force (R57): the override mask while an
override period runs, else the sensor mask. -/
def maskInForce (c : Cabin) : Sensors :=
  match c.overrideEnd, c.data.openMask with
  | none, _ => c.data.mask
  | some _, some m => m
  | some _, none => { c.data.mask with leafClosed := false, boltThrown := false }

/-- No sensor of the mask in force differs from the expected pattern (R57). -/
def agrees (c : Cabin) (w : Sensors) : Prop :=
  ((maskInForce c).leafClosed = true → w.leafClosed = c.data.pattern.leafClosed) ∧
  ((maskInForce c).boltThrown = true → w.boltThrown = c.data.pattern.boltThrown) ∧
  ((maskInForce c).privacyKnob = true → w.privacyKnob = c.data.pattern.privacyKnob) ∧
  ((maskInForce c).tamperCover = true → w.tamperCover = c.data.pattern.tamperCover)

/-- The watch of a re-evaluated cabin (R59): as the last sensor word compares, kept where there is none. -/
def reevaluatedTo (c : Cabin) (w : Watch) : Prop :=
  (c.lastWord = none → w = c.watch) ∧
  (∀ x, c.lastWord = some x → (agrees c x → w = .armed) ∧ (¬agrees c x → w = .tripped))

/-- A station is an enrolled Lock (R46 test 3). -/
def isLock (s : State) (st : Station) : Prop := ∃ r, s.station? st = some r ∧ r.kind = .lock

end Sys2Proof.Claims

/-! ## Loads -/

/-- DATA_FRAME taken by an Idle Command Engine (R161): ORDER without a session; MALFORMED when the body is not 1 to 16
entries of the session's table and mode; else the first entry is settled and the Command Engine is Executing until the
last one has been settled, when the totals rise, the remaining gap is set again and the Status is handed. That the
later entries are settled one in a millisecond (EmptyQueueStepIsOneMillisecond), with other claims taken between them
(R162), is the MODEL's choice (log 34); with none between, they are settled in the order carried. An entry whose mode's
permission is withdrawn is given PROTECT and changes nothing (R162 test 1). Entries sent as bytes are read back with
every field; a count of 0 or above 16 and a body with bytes left over are refused (R161 case 2; codings of log 20). -/
def Obligations.DataFramesSettleEntriesInOrder : Prop :=
  (∀ (s : State) (tag : Nat) (body : List Byte), takes s →
    let t := up s
    exec (.dataFrame tag body) s = .next (
      match t.engine.session with
      | none => withStatus t 2 0 tag .order
      | some x =>
        match readEntries x.table x.mode body with
        | none => withRefusal t 2 0 tag .malformed
        | some es => entryTaken { t with engine := { t.engine with state := .loading ⟨tag, x.mode, es, []⟩ } })) ∧
  (∀ (s : State) (tag : Nat) (mode : LoadMode) (es : List DataEntry), es ≠ [] →
    s.engine.state = .loading ⟨tag, mode, es, []⟩ →
    Nat.repeat entryTaken es.length s = dataEnded (settledInOrder mode es s).1 tag (settledInOrder mode es s).2) ∧
  (∀ (s : State) (mode : LoadMode) (e : DataEntry), permitted s.engine.protection mode = false →
    settleEntry s mode e = (s, .protect)) ∧
  (∀ (table : TableName) (mode : LoadMode) (es : List DataEntry),
    (∀ e ∈ es, entryFits e ∧ (entryForm e).1 = table ∧ (entryForm e).2.1 = mode) →
    (1 ≤ es.length → es.length ≤ 16 →
      readEntries table mode (oneByte es.length ++ es.flatMap fun e => (entryForm e).2.2) = some es ∧
      ∀ more : List Byte, more ≠ [] →
        readEntries table mode (oneByte es.length ++ (es.flatMap fun e => (entryForm e).2.2) ++ more) = none) ∧
    ∀ (n : Nat) (bs : List Byte), n = 0 ∨ (17 ≤ n ∧ n < 256) → readEntries table mode (oneByte n ++ bs) = none)

/-- An offered card entry is read exactly when its fields are those of a well-formed entry (R8). The codes
are numbered as R190 numbers them. The model's readings: the range of a window's times is that of the clock (log
19), and the presence an entry carries is left out of the test, being tested at an insertion (log 18). -/
def Obligations.OfferedCardIsReadWhenWellFormed : Prop :=
  ∀ (o : CardOffer) (d : CardData), readCard o = some d ↔ (cardOffered o d ∧ cardWellFormed d)

/-- A Card entry in Merge mode, the first failure of R163: PARAMETER, PROTECT, IN_USE, FULL, else an insertion or a
rewrite; a presence code out of its list is tested at insertion only (the model's reading, log 18). A Card entry in
Purge mode, the first failure of R164 and R11: PARAMETER, PROTECT, NOT_FOUND, IN_USE, else the entry leaves. -/
def Obligations.CardEntriesAreMergedAndPurged : Prop :=
  (∀ (s : State) (o : CardOffer), s.engine.protection.load = true →
    ((∀ d, readCard o ≠ some d) → settleEntry s .merge (.cardMerge o) = (s, .parameter)) ∧
    (∀ d e, readCard o = some d → s.card? d.number = some e →
      (fenced s d.number → settleEntry s .merge (.cardMerge o) = (s, .protect)) ∧
      (¬fenced s d.number → e.data.account ≠ d.account → cardInUse s d.number →
        settleEntry s .merge (.cardMerge o) = (s, .inUse)) ∧
      (¬fenced s d.number → (e.data.account = d.account ∨ ¬cardInUse s d.number) →
        settleEntry s .merge (.cardMerge o) = (cardRewritten s e d, .ok))) ∧
    (∀ d, readCard o = some d → s.card? d.number = none →
      ((∃ n, o.presence = some n ∧ readPresence n = none) →
        settleEntry s .merge (.cardMerge o) = (s, .parameter)) ∧
      (∀ p, (o.presence = none ∧ p = .unknown ∨ ∃ n, o.presence = some n ∧ readPresence n = some p) →
        (fenced s d.number → settleEntry s .merge (.cardMerge o) = (s, .protect)) ∧
        (¬fenced s d.number → 8192 ≤ s.cards.length → settleEntry s .merge (.cardMerge o) = (s, .full)) ∧
        (¬fenced s d.number → s.cards.length < 8192 →
          settleEntry s .merge (.cardMerge o) = (cardInserted s d p, .ok))))) ∧
  (∀ (s : State) (n : Nat), s.engine.protection.purge = true →
    (n = 0 ∨ 16777215 < n → settleEntry s .purge (.cardPurge n) = (s, .parameter)) ∧
    (1 ≤ n → n ≤ 16777215 →
      (fenced s n → settleEntry s .purge (.cardPurge n) = (s, .protect)) ∧
      (¬fenced s n → s.card? n = none → settleEntry s .purge (.cardPurge n) = (s, .notFound)) ∧
      (∀ e, ¬fenced s n → s.card? n = some e →
        (cardInUse s n ∨ (∃ p ∈ s.passage.passages, p.card = some n)
            ∨ (s.muster.state ≠ .off ∧ e.mark ≠ .unmarked) →
          settleEntry s .purge (.cardPurge n) = (s, .inUse)) ∧
        (¬cardInUse s n → (∀ p ∈ s.passage.passages, p.card ≠ some n) →
            (s.muster.state = .off ∨ e.mark = .unmarked) →
          settleEntry s .purge (.cardPurge n) = (cardRemoved s e, .ok)))))

/-- An Account entry in Merge mode (R68, R69), and in Purge mode (R165). -/
def Obligations.AccountEntriesKeepCapsAndHolds : Prop :=
  (∀ (s : State) (o : AccountOffer) (st : AccountState), s.engine.protection.load = true →
    1 ≤ o.number → o.number ≤ 999999 → readAccountState o.state = some st →
    o.voyageCap ≤ 99999999 → o.dailyCap ≤ 99999999 → (∀ n ∈ o.voyageSpent, n ≤ 99999999) →
    (∀ n ∈ o.dailySpent, n ≤ 99999999) →
    let old := s.account? o.number
    let b : Account :=
      { number := o.number, state := st, voyageCap := o.voyageCap, dailyCap := o.dailyCap
        voyageSpent := o.voyageSpent.getD ((old.map Account.voyageSpent).getD 0)
        dailySpent := o.dailySpent.getD ((old.map Account.dailySpent).getD 0)
        heldTotal := (old.map Account.heldTotal).getD 0 }
    settleEntry s .merge (.accountMerge o) =
      if b.voyageCap < b.voyageSpent + b.heldTotal ∨ b.dailyCap < b.dailySpent + b.heldTotal then (s, .parameter)
      else if old.isSome ∧ st = .closed ∧ s.charge.holdsOf o.number ≠ [] then (s, .inUse)
      else if old.isNone ∧ 4096 ≤ s.charge.accounts.length then (s, .full)
      else ({ s with charge := { s.charge with accounts := put Account.number b s.charge.accounts } }, .ok)) ∧
  (∀ (s : State) (o : AccountOffer), s.engine.protection.load = true →
    (o.number = 0 ∨ 999999 < o.number ∨ readAccountState o.state = none ∨ 99999999 < o.voyageCap
      ∨ 99999999 < o.dailyCap ∨ (∃ n ∈ o.voyageSpent, 99999999 < n) ∨ (∃ n ∈ o.dailySpent, 99999999 < n)) →
    settleEntry s .merge (.accountMerge o) = (s, .parameter)) ∧
  (∀ (s : State) (n : Nat), s.engine.protection.purge = true →
    settleEntry s .purge (.accountPurge n) =
      if ¬(1 ≤ n ∧ n ≤ 999999) then (s, .parameter)
      else if s.account? n = none then (s, .notFound)
      else if s.charge.holdsOf n ≠ [] then (s, .inUse)
      else ({ s with charge := { s.charge with
          accounts := s.charge.accounts.filter fun a => a.number != n } }, .ok))

/-- A Cabin entry is in form exactly when its fields are in the ranges of R46 tests 1 to 3 (that a code out of its
list is out of range is the model's reading, log 17). In Merge mode (R46, R47), and in Purge mode (R166): a lock
station must be an enrolled Lock that no other cabin names; an insertion begins Secured, Armed and without trail; a
rewrite keeps the Access Unit's own fields, and one that changes the lock station ends the window and drops the last
sensor word. -/
def Obligations.CabinEntriesAreInsertedRewrittenRemoved : Prop :=
  (∀ (o : CabinOffer) (d : CabinData), readCabin o = some d ↔ (cabinOffered o d ∧ cabinWellFormed d)) ∧
  (∀ (s : State) (o : CabinOffer), s.engine.protection.load = true → readCabin o = none →
    settleEntry s .merge (.cabinMerge o) = (s, .parameter)) ∧
  (∀ (s : State) (o : CabinOffer) (d : CabinData), s.engine.protection.load = true → readCabin o = some d →
    ((∃ st, d.lock = some st ∧ (¬isLock s st ∨ ∃ c, s.cabinAt? st = some c ∧ c.data.number ≠ d.number)) →
      settleEntry s .merge (.cabinMerge o) = (s, .parameter)) ∧
    ((∀ st, d.lock = some st → isLock s st ∧ ∀ c, s.cabinAt? st = some c → c.data.number = d.number) →
      (s.cabin? d.number = none → 1024 ≤ s.cabins.length →
        settleEntry s .merge (.cabinMerge o) = (s, .full)) ∧
      (s.cabin? d.number = none → s.cabins.length < 1024 →
        settleEntry s .merge (.cabinMerge o) = ({ s with cabins := (put Cabin.key
          { data := d, lockState := .secured, windowEnd := none, overrideEnd := none, lastWord := none,
            watch := .armed, privacy := false, trail := [] } s.cabins) }, .ok)) ∧
      (∀ c, s.cabin? d.number = some c → c.data.lock ≠ d.lock →
        settleEntry s .merge (.cabinMerge o) = ({ s with cabins := (put Cabin.key
          { c with data := d, windowEnd := none, overrideEnd := none, lastWord := none,
                   lockState := if c.lockState = .openWindow then .secured else c.lockState } s.cabins) }, .ok)) ∧
      (∀ c, s.cabin? d.number = some c → c.data.lock = d.lock → ∃ w,
        settleEntry s .merge (.cabinMerge o) =
          ({ s with cabins := put Cabin.key { c with data := d, watch := w } s.cabins }, .ok) ∧
        (c.data.pattern = d.pattern → c.data.mask = d.mask → c.data.openMask = d.openMask → w = c.watch) ∧
        (¬(c.data.pattern = d.pattern ∧ c.data.mask = d.mask ∧ c.data.openMask = d.openMask) →
          reevaluatedTo { c with data := d } w)))) ∧
  (∀ (s : State) (n : Nat), s.engine.protection.purge = true →
    settleEntry s .purge (.cabinPurge n) =
      if ¬(1 ≤ n ∧ n ≤ 9999) then (s, .parameter)
      else if s.cabin? n = none then (s, .notFound)
      else ({ s with cabins := s.cabins.filter fun c => c.data.number != n }, .ok))

namespace Sys2Proof.Claims

/-- The bytes of Profile Set (R190, R194). -/
def profileOfferBytes (o : ProfileOffer) : List Byte :=
  oneByte o.openWindow ++ oneByte o.entryGrace ++ numBytes 2 o.holdLifetime ++ oneByte o.terminalHoldLimit
    ++ oneByte o.confirmTimeout ++ oneByte o.referralTimeout ++ oneByte o.repeatWindow ++ oneByte o.missLimit
    ++ oneByte o.loadGapTimeout ++ oneByte o.dayBoundaryHour ++ oneByte o.countMode ++ oneByte o.openFallback
    ++ oneByte o.passageFallback

/-- Class, kind and tag of a row that is a frame with a correct check word. -/
def frameOf : Instr → Option (Nat × Nat × Nat)
  | .answerFrame t _ _ => some (5, 0, t)
  | .throughDown t _ _ _ => some (6, 0, t)
  | c => engineFrameOf c

/-- The body of a frame row, field by field (R182, R190; log 20). -/
def frameBody : Instr → List Byte
  | .clockSet _ t => dateBytes t
  | .profileSet _ o => profileOfferBytes o
  | .lineSettings _ l s r i => oneByte l ++ oneByte s ++ oneByte r ++ numBytes 2 i
  | .lineTestStart _ l => oneByte l
  | .lineTestEnd _ l => oneByte l
  | .stationEnroll _ l a k d => oneByte l ++ oneByte a ++ oneByte k ++ optBytes oneByte d
  | .stationRemove _ l a => oneByte l ++ oneByte a
  | .vesselCodesSet _ a b c d => numBytes 2 a ++ numBytes 2 b ++ numBytes 2 c ++ numBytes 2 d
  | .loadOpen _ a m => oneByte a ++ oneByte m
  | .entryRead _ a k => oneByte a ++ numBytes (if a = 3 then 2 else 3) k
  | .accountWrite _ a s v d => numBytes 3 a ++ optBytes oneByte s ++ optBytes (numBytes 4) v ++ optBytes (numBytes 4) d
  | .cabinWrite _ c l w m =>
    numBytes 2 c ++ optBytes oneByte l ++ optBytes (fun x : Nat × Nat => oneByte x.1 ++ oneByte x.2) w
      ++ optBytes oneByte m
  | .presenceSet _ c p s => numBytes 3 c ++ oneByte p ++ numBytes 4 s
  | .portCallOpen _ t => dateBytes t
  | .journalRead _ s c => numBytes 4 s ++ oneByte c
  | .journalRelease _ n => numBytes 4 n
  | .ashoreRead _ s => numBytes 3 s
  | .musterStart _ o => oneByte o
  | .unaccountedRead _ s => numBytes 3 s
  | .alarmConfig _ i m => oneByte i ++ oneByte m
  | .eventRead _ c => oneByte c
  | .eventKinds _ vs => vs.flatMap oneByte
  | .protectionSet _ a b c r =>
    oneByte a ++ oneByte b ++ oneByte c ++ optBytes (fun x : Nat × Nat => numBytes 3 x.1 ++ numBytes 3 x.2) r
  | .restart _ o => oneByte o
  | .dataFrame _ b => b
  | .answerFrame _ v e => oneByte (match v with | .grant => 1 | .refuse => 2) ++ optBytes cardOfferBytes e
  | .throughDown _ l a d => oneByte l ++ oneByte a ++ d
  | _ => []

/-- The bytes of a request record, its type first (R191). -/
def requestBytes : Request → List Byte
  | .presentation v c i p =>
    oneByte 1 ++ numBytes 2 v ++ numBytes 3 c ++ oneByte i ++
      (match p with
        | .none => oneByte 0
        | .gesture g => oneByte 1 ++ oneByte g
        | .sale a g r => oneByte 2 ++ numBytes 3 a ++ oneByte g ++ numBytes 2 r
        | .direction d => oneByte 3 ++ oneByte d)
  | .complete t a => oneByte 2 ++ numBytes 2 t ++ numBytes 3 a
  | .cancel t => oneByte 3 ++ numBytes 2 t
  | .passageReport o => oneByte 4 ++ oneByte o

/-- A Reply: address, kind, request number, sensor byte, content length, content, check word (R191). -/
def replyBytes (addr kind number : Nat) (sensor : List Byte) (content : List Byte) : List Byte :=
  let counted := oneByte addr ++ oneByte kind ++ oneByte number ++ sensor ++ oneByte content.length ++ content
  counted ++ numBytes 2 (checkWord counted)

/-- What may stand in the content of a Reply kind (R191). -/
def contentOfKind (kind : Nat) (content : List Byte) : Prop :=
  ((kind = 16 ∨ kind = 18) ∧ content = []) ∨
  (kind = 17 ∧ ∃ q : Request, q.fits = true ∧ content = requestBytes q) ∨
  (kind = 19 ∧ 1 ≤ content.length ∧ content.length ≤ 64) ∨ (kind = 20 ∧ content.length = 16)

/-- Bytes that are a Reply in form with a correct check word (R191). -/
def isReply (bs : List Byte) : Prop :=
  ∃ (addr kind number sensor : Nat) (content : List Byte), addr < 256 ∧ kind < 256 ∧ number < 256 ∧ sensor < 256 ∧
    contentOfKind kind content ∧ bs = replyBytes addr kind number (oneByte sensor) content

/-- Every count one millisecond on: the timebase, the silence of the trunk and its oldest frame, the session's gap and
the voyage clock, the exchanges, waits and settle intervals of the lines, the holds, the pending passages and the
referrals. -/
def counted (s : State) : State :=
  { s with
    timebase := s.timebase + 1
    trunk := { s.trunk with
      silence := if s.trunk.received = [] then 0 else s.trunk.silence + 1
      outgoing := if s.trunk.up then s.trunk.outgoing.drop 1 else s.trunk.outgoing }
    engine := { s.engine with
      voyage := s.engine.voyage.advance
      session := s.engine.session.map fun x => { x with gap := x.gap - 1 } }
    lines := s.lines.map fun x => { x with
      exchange := x.exchange.map fun e => { e with left := e.left - 1 }
      wait := x.wait.map fun w => { w with left := w.left - 1 }
      settleLeft := x.settleLeft - 1 }
    charge := { s.charge with holds := s.charge.holds.map fun h => { h with left := h.left - 1 } }
    passage := { s.passage with passages := s.passage.passages.map fun p => { p with left := p.left - 1 } }
    referral := { s.referral with list := s.referral.list.map fun r => { r with left := r.left - 1 } } }

/-- What the clock has reached is taken in one event (R103, R192): at or past the next boundary one rollover is taken
and the next boundary is replaced; at or past the all-aboard time the port call is in Last Call. Where both arise,
either may come first (log 7). -/
def clockCompared (s t : State) (boundary : Option DateTime) : Prop :=
  let reached := ∃ now b, s.engine.voyage.time = some now ∧ s.engine.voyage.boundary = some b ∧ timeKey b ≤ timeKey now
  let due := fun a => ∃ now, s.engine.voyage.time = some now ∧ reachesAllAboard s now a
  let c : State := { s with engine := { s.engine with voyage := { s.engine.voyage with boundary := boundary } } }
  let d : State := { c with free := c.free + 1 }
  (¬reached → (∀ a, ¬due a) → t = s) ∧
  (reached → (∀ a, ¬due a) → t = rolledOver c) ∧
  (∀ a, ¬reached → due a → t = inLastCall s a) ∧
  (∀ a, reached → due a → t = inLastCall (rolledOver d) a ∨ t = rolledOver (inLastCall d a))

/-- What the receiver settles next in the bytes it holds: its row, the trunk state behind it and the bytes left; none
where it waits for bytes (R176, R177; log 15). The search goes to the first start marker. A Length outside 4 to 1,028,
or not come in 50 ms, and a frame not complete after a gap longer than 50 ms discard the frame, and the search goes on
from the byte after its marker. A complete frame is its row and brings the trunk Up, or FRAME_CHECK_FAILED where its
check word is wrong: the bytes after it are left while the trunk is Up, and those after its marker while it is Down.
-/
def frameTaken (up : Bool) (silence : Nat) (received : List Byte) : Option (List Instr × Bool × List Byte) :=
  let bs := received.dropWhile fun b => b != 0xC3#8
  match bs with
  | _ :: hi :: lo :: rest =>
    let n := hi.toNat * 256 + lo.toNat
    if n < 4 ∨ 1028 < n then some ([], up, bs.drop 1)
    else if rest.length < n + 2 then (if 50 < silence then some ([], up, bs.drop 1) else none)
    else
      match rest.take n, (rest.drop n).take 2 with
      | c :: k :: g :: h :: body, [x, y] =>
        if (((hi :: lo :: rest.take n).map fun b => b.toNat).sum + (x.toNat * 256 + y.toNat)) % 65536 = 0 then
          some ([readFrame c.toNat k.toNat (g.toNat * 256 + h.toNat) body], true, rest.drop (n + 2))
        else some ([.frameCheckFailed c.toNat k.toNat (g.toNat * 256 + h.toNat)], up,
          if up then rest.drop (n + 2) else bs.drop 1)
      | _, _ => none
  | [] => none
  | _ => if 50 < silence then some ([], up, bs.drop 1) else none

/-- What the receiver settles in the bytes it holds, one frame after the other, at most as many as told: the rows in the
order in which the frames complete, and the bytes left (R176). -/
def framesTaken (silence : Nat) : Nat → Bool → List Byte → List Instr × List Byte
  | 0, _, bs => ([], bs)
  | n + 1, up, bs =>
    match frameTaken up silence bs with
    | none => ([], bs.dropWhile fun b => b != 0xC3#8)
    | some (rows, up, bs) => (rows ++ (framesTaken silence n up bs).1, (framesTaken silence n up bs).2)

/-- A row for a time of the timebase that has been reached. -/
def atTime (s : State) (t : Option Nat) (row : Instr) : List Instr :=
  match t with
  | some e => if e ≤ s.timebase then [row] else []
  | none => []

/-- The rows of a line whose time has run out: settle interval, Line Settings wait, reply timeout. -/
def lineRows (s : State) (l : LineNo) : List Instr :=
  (if (s.line l).state = .settling ∧ (s.line l).settleLeft = 0 then [.settleIntervalEnd l] else []) ++
  (match (s.line l).wait with
    | some w => if w.left = 0 then [.lineSettingsWaitTimeout l] else []
    | none => []) ++
  (match (s.line l).exchange with
    | some x => if x.left = 0 then [.replyTimeout l] else []
    | none => [])

/-- The rows whose time has run out, in the order of log 1. A session is not abandoned while a Data frame is being
settled (log 34). -/
def timedRows (s : State) : List Instr :=
  (List.finRange 8).flatMap (lineRows s) ++
  s.cabins.flatMap (fun c =>
    atTime s c.windowEnd (.windowEnd c.data.number) ++ atTime s c.overrideEnd (.overrideEnd c.data.number)) ++
  (s.charge.holds.filter fun h => h.left == 0).map (fun h => .holdLapse h.tag) ++
  (s.passage.passages.filter fun p => p.left == 0).map (fun p => .passageConfirmTimeout p.gate) ++
  (s.referral.list.filter fun r => r.left == 0).map (fun r => .referralTimeout r.tag) ++
  (match s.engine.state, s.engine.session with
    | .loading _, _ => []
    | _, some x => if x.gap = 0 then [.loadGapExpiry] else []
    | _, none => [])

/-- A Restart in progress begins once its Status no longer awaits transmission (R186); the row carries the levels last
taken (log 27). -/
def restartRows (s : State) : List Instr :=
  if s.engine.restartOption.isSome ∧ (s.trunk.outgoing.all fun f =>
      match f with
      | .status x => !(x.cls == 1 && x.kind == 34 && x.result == some .ok)
      | _ => true) = true
  then [.restartBegin (s.muster.inputs.map fun x => x.level)] else []

/-- The addresses of a line's stations that satisfy a test. -/
def addresses (x : Line) (test : StationRec → Bool) : List Nat := (x.stations.filter test).map fun r => r.addr

/-- Each Present station and, with the round count at 0, each Absent station (R28). -/
def pollsAt (count : Nat) (r : StationRec) : Bool := r.state == .present || (r.state == .absent && count == 0)

/-- The addresses of the round to come and its count: in Test every station (R38), on a waiting line those with
an open request (R35), else those of the count (R28), a count whose round is empty passing over to the
recovery polls of count 0 (log 13). -/
def nextRound (x : Line) : List Nat × Nat :=
  if x.state = .test then (addresses x fun _ => true, x.roundCount)
  else if x.wait.isSome then (addresses x fun r => r.openRequest.isSome, x.roundCount)
  else if addresses x (pollsAt x.roundCount) = [] ∧ addresses x (pollsAt 0) ≠ [] then
    (addresses x (pollsAt 0), 0)
  else (addresses x (pollsAt x.roundCount), x.roundCount)

/-- The addresses left in the round in progress that are still polled: the slot holds a station, and on a
waiting line the station has an open request (R28, R35). -/
def leftInRound (x : Line) : List Nat :=
  (x.round.getD []).filter fun a =>
    (lookup StationRec.addr a x.stations).any fun r => x.wait.isNone || r.openRequest.isSome

/-- The address that a free line polls next, if any: the first left in the round, else the first of the next one (R22,
R28). -/
def polledNext (x : Line) : Option Nat :=
  if (x.state = .running ∨ x.state = .test) ∧ x.exchange = none then
    if leftInRound x = [] then (nextRound x).1.head? else (leftInRound x).head?
  else none

/-- The Polls of the free lines (log 11): a line polls where the slot of the next address holds a station. -/
def pollRows (s : State) : List Instr :=
  ((List.finRange 8).filter fun l =>
    (polledNext (s.line l)).any fun a => (lookup StationRec.addr a (s.line l).stations).isSome).map fun l => .poll l

/-- The invariants of every step, together. -/
def sound (s : State) : Prop :=
  s.eventsKept ∧ s.slotsKept ∧ s.journalRun ∧ s.noOutboundInMuster ∧ s.countersAgree ∧ s.rollAgrees ∧
  s.accountsKept ∧ s.accountTableKept ∧ s.cardTableKept ∧ s.cabinTableKept ∧ s.passagesKept ∧ s.referralsKept ∧
  s.verdictsKept ∧ s.engine.profile.legal

end Sys2Proof.Claims

/-! ## Time, reset, invariants -/

/-- The step on an empty queue is one millisecond: the MODEL's choice (log 1). Every count falls by one, and the
oldest frame awaiting transmission leaves (log 10); in the same event the rollover of a boundary that the running
clock has reached is taken, and the boundary moves a day on (R192), and so is the transition of an all-aboard time
reached (R103; the order of the two is log 7); then the next entry of a Data frame being settled is settled (log 34);
then the receiver settles every frame that is complete, not readable or broken off by a gap (R176; log 15), until it
holds nothing but a frame that waits; and the queue is the rows whose time has run out, the frames' rows, the
beginning of a Restart that is due (log 27) and the Polls of the free lines (log 11), and no other row. With main
power off only the voyage clock runs (log 23). -/
def Obligations.EmptyQueueStepIsOneMillisecond : Prop :=
  ∀ s : State, s.pending = [] →
    (s.power.mainOn = false →
      step s = .next { s with engine := { s.engine with voyage := s.engine.voyage.advance } }) ∧
    (s.power.mainOn = true →
      ∃ r, clockCompared (counted s) r ((counted s).engine.voyage.boundary.map nextDay) ∧
      let t := entryTaken r
      let f := framesTaken t.trunk.silence (t.trunk.received.length + 1) t.trunk.up t.trunk.received
      let u : State := { t with trunk := { t.trunk with received := f.2 } }
      step s = .next { u with pending := timedRows u ++ f.1 ++ restartRows u ++ pollRows u })

/-- The voyage clock (R192): unset it does not run; a set clock advances one second for each second of the
timebase to the next date and time there is, and stays at the last one. The next boundary is the first
instant of the boundary hour later than the clock; as the clock runs it stays so until the clock reaches it, and the
same hour of the following day is then the next one. Validity and order are those of log 19. -/
def Obligations.VoyageClockRunsAndFindsItsBoundary : Prop :=
  (∀ v : VoyageClock, v.time = none → v.advance = v) ∧
  (∀ (v : VoyageClock) (t : DateTime), v.time = some t →
    (v.millis < 999 → v.advance = { v with millis := v.millis + 1 }) ∧
    (999 ≤ v.millis → v.advance = { v with time := some (nextSecond t), millis := 0 })) ∧
  (nextSecond lastTime = lastTime) ∧
  (∀ t : DateTime, validTime t = true → t ≠ lastTime →
    validTime (nextSecond t) = true ∧ timeKey t < timeKey (nextSecond t) ∧
    ∀ u : DateTime, validTime u = true → timeKey t < timeKey u → timeKey (nextSecond t) ≤ timeKey u) ∧
  (∀ (hour : Nat) (clock : DateTime), hour ≤ 23 → validTime clock = true →
    let b := boundaryAfter hour clock
    b.hour = hour ∧ b.minute = 0 ∧ b.second = 0 ∧ timeKey clock < timeKey b ∧
    ∀ t : DateTime, validTime t = true → t.hour = hour → t.minute = 0 → t.second = 0 →
      timeKey clock < timeKey t → timeKey b ≤ timeKey t) ∧
  (∀ (hour : Nat) (clock : DateTime), hour ≤ 23 → validTime clock = true → clock ≠ lastTime →
    let b := boundaryAfter hour clock
    (timeKey (nextSecond clock) < timeKey b → boundaryAfter hour (nextSecond clock) = b) ∧
    (timeKey b ≤ timeKey (nextSecond clock) → nextSecond clock = b ∧ boundaryAfter hour b = nextDay b))

/-- After reset the whole block stands as a cold start leaves it (R12, R43, R65, R88, R100, R122, R141, R157, R171,
R175, R188, R192, R194, R199), and every invariant holds. The model's choices: the power and the last restart's cause
(log 3), the carrier (log 4), the levels found (log 5), the timebase (log 23), a queue in which nothing waits (log 33)
and the counter of free choices, of which nothing is said (log 28). -/
def Obligations.ResetIsAColdStartAndSound : Prop :=
  sound State.reset ∧
  State.reset =
    { timebase := 0
      power := { mainOn := true, retentionValid := true }
      trunk := { up := false, carrier := true, received := [], silence := 0, outgoing := [] }
      engine :=
        { state := .idle, restartOption := none, session := none
          profile :=
            { openWindow := 5, entryGrace := 30, holdLifetime := 600, terminalHoldLimit := 2, confirmTimeout := 15,
              referralTimeout := 3, repeatWindow := 4, missLimit := 3, loadGapTimeout := 10, dayBoundaryHour := 4,
              countMode := .strict, openFallback := .refuse, passageFallback := .refuse }
          protection := { load := true, purge := true, rangeRewrite := true, range := none }
          voyage := { time := none, millis := 0, day := 0, boundary := none }
          vesselCodes := #v[none, none, none, none]
          lastRestart := { kind := .cold, cause := .retentionLost } }
      lines := Vector.replicate 8
        { state := .stopped, settings := { speed := .kbit38400, replyTimeout := 10, settle := 50 }, stations := [],
          exchange := none, roundCount := 0, round := none, wait := none, settleLeft := 0 }
      cards := [], cabins := []
      charge := { accounts := [], holds := [], lastTag := 0, journal := [], lastNumber := 0 }
      passage :=
        { counters :=
            { guest := ⟨0, 0, 0⟩, junior := ⟨0, 0, 0⟩, crew := ⟨0, 0, 0⟩, steward := ⟨0, 0, 0⟩, officer := ⟨0, 0, 0⟩ }
          untrackedIn := 0, untrackedOut := 0, port := .atSea, passages := [] }
      muster :=
        { state := .off, startTime := none, alertTime := none
          roll := Vector.replicate 32 { guestJunior := 0, crew := 0, unlisted := 0 }
          inputs := Vector.replicate 4 { mode := .disabled, level := false, seen := false } }
      referral := { list := [], lastTag := 0 }
      events := { records := [], enables := Vector.replicate 28 true }
      free := State.reset.free
      pending := [] }

/-- Every step keeps: the Event Queue within 512 records (R196), journal records and holds within 2048 slots (R93), the
numbers of the journal records held in one unbroken run that ends at the last number given (R92); the Card Table's
numbers apart and at most 8192 entries (R4), the Account Table's at most 4096 (R66), the Cabin Table's at most 1024 and
no Lock of two cabins (R44, R46), all held in ascending number (log 24); one pending passage a gate and a card (R108);
the Referral List's at most 64 tags and stations apart (R143), each referral's request in Deciding (R31), with no
verdict polled before it is given (R26, R32); and the profile legal (R194). -/
def Obligations.EveryStepKeepsTablesAndCapacities : Prop :=
  (∀ s t : State, step s = .next t →
    (s.eventsKept → t.eventsKept) ∧ (s.slotsKept → t.slotsKept) ∧ (s.journalRun → t.journalRun)) ∧
  (∀ s t : State, step s = .next t →
    (s.cardTableKept → t.cardTableKept) ∧ (s.accountTableKept → t.accountTableKept) ∧
    (s.cabinTableKept → t.cabinTableKept) ∧ (s.passagesKept → t.passagesKept) ∧
    (s.referralsKept ∧ s.verdictsKept → t.referralsKept ∧ t.verdictsKept) ∧
    (s.engine.profile.legal → t.engine.profile.legal))

/-- Every step keeps: no Outbound passage is pending during Drill or Alert (R114, R141); and with it, in every muster,
each station's Guest/Junior and crew counts equal to the cards of that group marked there, and every marked card
Aboard (R137). -/
def Obligations.EveryStepKeepsMusterInboundOnly : Prop :=
  ∀ s t : State, s.noOutboundInMuster → step s = .next t →
    t.noOutboundInMuster ∧ (s.rollAgrees → t.rollAgrees)

/-- Every step keeps each presence counter equal to the number of cards of its class and presence (R106,
R119). -/
def Obligations.EveryStepKeepsTheCounters : Prop :=
  ∀ s t : State, s.countersAgree → step s = .next t → t.countersAgree

/-- Every step keeps every account within its caps with its held total equal to its holds, hold tags apart, and
at most 256 holds (R66, R72, R73). -/
def Obligations.EveryStepKeepsTheAccounts : Prop :=
  ∀ s t : State, s.accountsKept → step s = .next t → t.accountsKept

/-! ## Bytes on the wires -/

/-- Every Command, Data, Answer and Through-down frame, sent as bytes, is found by the receiver with its check word
correct and read back as its row with every operand (R176-R178, R182, R189, R190; the codings that R190 leaves open
are the model's, log 20). The check word computed is correct, of the words of 16 bits no other is, and a frame in
which one byte has changed fails the check (R177). -/
def Obligations.TrunkFramesAreReadBack : Prop :=
  (∀ (c : Instr) (cls kind tag : Nat) (rest : List Byte) (silence : Nat), c.wellFormed = true →
    frameOf c = some (cls, kind, tag) →
    framing silence (trunkFrame cls kind tag (frameBody c) ++ rest) =
      .complete cls kind tag (frameBody c) true rest ∧
    readFrame cls kind tag (frameBody c) = c) ∧
  (∀ (bs : List Byte), checkWord bs < 65536 ∧ checkHolds bs (checkWord bs) = true ∧
    (∀ w, checkHolds bs w = true ↔ ((bs.map fun b => b.toNat).sum + w) % 65536 = 0) ∧
    (∀ w, w < 65536 → checkHolds bs w = true → w = checkWord bs) ∧
    (∀ (i : Nat) (b : Byte), i < bs.length → bs[i]? ≠ some b → checkHolds (bs.set i b) (checkWord bs) = false))

/-- Every Reply of a reader line, sent as bytes, is read back as its row with every operand; bytes that are no Reply
in form with a correct check word are BAD_REPLY, which is a miss (R191). That a Request whose type is outside 1 to 4 or
whose part code is outside 0 to 3 is no Reply in form is the model's choice (log 35). -/
def Obligations.RepliesAreReadBack : Prop :=
  (∀ (st : Station) (word : Sensors) (number : Nat) (q : Request) (data : List Byte),
    st.addr < 256 → number < 256 → q.fits = true →
    readReply st.line (replyBytes st.addr 16 0 (sensorByte word) []) = .idle st word ∧
    readReply st.line (replyBytes st.addr 17 number (sensorByte word) (requestBytes q)) =
      .request st word number q ∧
    readReply st.line (replyBytes st.addr 18 number (sensorByte word) []) = .acknowledge st word number ∧
    (1 ≤ data.length → data.length ≤ 64 →
      readReply st.line (replyBytes st.addr 19 0 (oneByte 0) data) = .throughUp st data) ∧
    (data.length = 16 → readReply st.line (replyBytes st.addr 20 0 (oneByte 0) data) = .echo st data)) ∧
  (∀ (line : LineNo) (bs : List Byte), ¬isReply bs → readReply line bs = .badReply line)

namespace Sys2Proof.Claims

/-- The state a cold start leaves (R188): everything as after reset but for the cause and the levels found; the
carrier, the timebase and the model's own fields are not settings and stay. -/
def coldStarted (s : State) (cause : RestartCause) (levels : Levels) : State :=
  { State.reset with
    timebase := s.timebase
    trunk := { up := false, carrier := s.trunk.carrier, received := [], silence := 0, outgoing := [] }
    engine := { State.reset.engine with lastRestart := { kind := .cold, cause := cause } }
    muster := { State.reset.muster with
      inputs := Vector.ofFn fun i => { mode := .disabled, level := levels[i], seen := false } }
    free := s.free
    pending := s.pending }

/-- A line after a warm restart (R42). -/
def lineRestarted (x : Line) : Line :=
  { state := if x.state = .stopped ∧ x.stations = [] then .stopped else .running
    settings := x.settings
    stations := x.stations.map fun r =>
      { addr := r.addr, kind := r.kind, state := .present, misses := 0, openRequest := none, notice := none,
        repeatRecord := none, queue := [], echoGood := 0, echoFailed := 0 }
    exchange := none, roundCount := 0, round := none, wait := none, settleLeft := 0 }

/-- A cabin after a warm restart (R64). -/
def cabinRestarted (c : Cabin) : Cabin :=
  { c with
    lockState := if c.lockState = .openWindow then .secured else c.lockState
    windowEnd := none, overrideEnd := none, lastWord := none }

/-- The Lapsed records of a warm restart: one for each hold, oldest first, numbered on from the last (R87). -/
def lapsedRecords (s : State) : List JournalRecord :=
  s.charge.holds.mapIdx fun i h =>
    { number := s.charge.lastNumber + 1 + i, kind := .lapsed, account := h.account, card := h.card
      station := h.station, outlet := h.outlet, reference := h.reference, tag := h.tag, amount := h.amount
      time := s.engine.voyage.time, day := s.engine.voyage.day }

/-- A hold ends with one journal record (R77-R79): it leaves, the held total falls by the held amount, the spent
values rise by what is charged. -/
def holdEnded (s : State) (h : Hold) (kind : JournalKind) (amount charged : Nat) : State :=
  { s with charge := { s.charge with
      accounts := match s.account? h.account with
        | some a => put Account.number
            { a with voyageSpent := a.voyageSpent + charged, dailySpent := a.dailySpent + charged,
                     heldTotal := a.heldTotal - h.amount } s.charge.accounts
        | none => s.charge.accounts
      holds := s.charge.holds.filter fun x => x.tag != h.tag
      journal := s.charge.journal ++
        [{ number := s.charge.lastNumber + 1, kind := kind, account := h.account, card := h.card
           station := h.station, outlet := h.outlet, reference := h.reference, tag := h.tag, amount := amount
           time := s.engine.voyage.time, day := s.engine.voyage.day }]
      lastNumber := s.charge.lastNumber + 1 } }

/-- What a warm restart discards or sets back, without an event (R42, R64, R157, R175, R188): the lines' work, the
windows and last words of the cabins, the frames and the trunk state, the referrals, the session, the Command or Data
frame in progress, of which the entries still to be settled are never settled (R175, log 34). -/
def workDiscarded (s : State) (cause : RestartCause) : State :=
  { s with
    trunk := { up := false, carrier := s.trunk.carrier, received := [], silence := 0, outgoing := [] }
    engine := { s.engine with
      state := .idle, restartOption := none, session := none, lastRestart := { kind := .warm, cause := cause } }
    lines := s.lines.map lineRestarted
    cabins := s.cabins.map cabinRestarted
    referral := { list := [], lastTag := s.referral.lastTag } }

/-- Every outstanding hold lapses, oldest first, with its journal record and no event (R87), and every pending passage
is abandoned without an event (R122). -/
def workEnded (s : State) : State :=
  let t := s.charge.holds.foldl (fun t h => holdEnded t h .lapsed h.amount 0) s
  { t with passage := { t.passage with passages := [] } }

/-- The condition of an input occurs when its mode is a level mode whose level is asserted (R141). -/
def conditionFound (s : State) (i : Fin 4) : State :=
  if (s.muster.inputs[i].mode = .levelHigh ∧ s.muster.inputs[i].level = true) ∨
      (s.muster.inputs[i].mode = .levelLow ∧ s.muster.inputs[i].level = false)
  then conditionOccurred s i else s

/-- Each input takes the level found, with mode and seen flag kept, and a level mode found asserted has its condition,
inputs 1 to 4 in order (R141; the order is log 9). -/
def levelsFound (s : State) (levels : Levels) : State :=
  let t : State := { s with muster := { s.muster with
    inputs := Vector.ofFn fun i => { s.muster.inputs[i] with level := levels[i] } } }
  conditionFound (conditionFound (conditionFound (conditionFound t 0) 1) 2) 3

/-- What a warm restart of a cause leaves, stage by stage (R12, R42, R64, R87, R103, R122, R141, R157, R175, R188,
R192, R199), everything that no stage names being kept; a boundary that the clock has reached is recomputed from the
clock, however many were passed; the Restart record comes last, with the number of passages
abandoned. The Lapsed records carry the clock and the day number before the comparison (log 8). The last clauses say
what the stages come to. -/
def warmRestarted (s t : State) (cause : RestartCause) (levels : Levels) : Prop :=
  (∃ d, clockCompared (workEnded (workDiscarded s cause)) d
      (s.engine.voyage.time.map (boundaryAfter s.engine.profile.dayBoundaryHour)) ∧
    t = withEvent (levelsFound d levels)
      { kind := .restart, detail := some (.passages s.passage.passages.length) }) ∧
  t.charge.holds = [] ∧ t.charge.journal = s.charge.journal ++ lapsedRecords s ∧
  t.charge.lastNumber = s.charge.lastNumber + s.charge.holds.length ∧ t.charge.lastTag = s.charge.lastTag ∧
  (s.accountsKept → (∀ a ∈ t.charge.accounts, a.heldTotal = 0) ∧
    (t.charge.accounts.map fun a => { a with dailySpent := 0, heldTotal := 0 }) =
      s.charge.accounts.map fun a => { a with dailySpent := 0, heldTotal := 0 }) ∧
  t.passage.passages = [] ∧ t.passage.counters = s.passage.counters ∧
  t.passage.untrackedIn = s.passage.untrackedIn ∧ t.passage.untrackedOut = s.passage.untrackedOut ∧
  (t.cards.map fun e => (e.data, e.presence, e.stamp)) = (s.cards.map fun e => (e.data, e.presence, e.stamp)) ∧
  (∀ i : Fin 4, t.muster.inputs[i].level = levels[i] ∧ t.muster.inputs[i].mode = s.muster.inputs[i].mode)

/-- A Restart was taken and its Status has been transmitted or discarded (R186). -/
def restartIsDue (s : State) (k : RestartKind) : Prop :=
  s.engine.restartOption = some k ∧
  ∀ x, .status x ∈ s.trunk.outgoing → ¬(x.cls = 1 ∧ x.kind = 34 ∧ x.result = some .ok)

/-- The station owed by a Through-up frame that is discarded, while the slot still holds a Through station
(R156). -/
def noticesOfLost : List OutFrame → State → State
  | [], s => s
  | .throughUp st _ :: fs, s =>
    noticesOfLost fs (if (s.station? st).any fun r => r.kind == .through then
      s.oweNotice st { reason := .outOfService, number := none } else s)
  | _ :: fs, s => noticesOfLost fs s

/-- Every referral of a list leaves the Referral List and is decided by fallback, cause trunk loss, one after
another (R154). -/
def fallenBack : List Referral → State → State
  | [], s => s
  | r :: rs, s =>
    fallenBack rs (State.fallback
      { s with referral := { s.referral with list := s.referral.list.filter fun x => x.tag != r.tag } }
      r.presentation r.number .trunkLoss)

/-- The receiver gives up the frame that stands first in its bytes: the search goes on from the byte after its
start marker (R176). -/
def afterMarker (bs : List Byte) : List Byte := (bs.dropWhile fun b => b != 0xC3#8).drop 1

/-- The Length of the frame that stands first in the bytes, when both its bytes are there (R189). -/
def lengthOf (bs : List Byte) : Option Nat :=
  match bs.dropWhile fun b => b != 0xC3#8 with
  | _ :: a :: b :: _ => some (a.toNat * 256 + b.toNat)
  | _ => none

/-- The number of bytes that stand behind the Length. -/
def behindLength (bs : List Byte) : Nat := ((bs.dropWhile fun b => b != 0xC3#8).drop 3).length

end Sys2Proof.Claims

/-! ## Restarts, power, carrier -/

/-- RESTART_BEGIN (R186): when a Restart is due, a cold start or a warm restart with cause Command; before its Status
has been transmitted or discarded nothing is changed (log 2). That the row carries the levels found is log 27; that the
Lapsed records of a warm restart carry the day number before a rollover is log 8, the order of rollover and all-aboard
log 7, that of the inputs log 9, and a Data frame cut between two of its entries log 34. -/
def Obligations.RestartBeginRunsTheOption : Prop :=
  ∀ (s : State) (levels : Levels), s.power.mainOn = true →
    (restartIsDue s .cold → exec (.restartBegin levels) s = .next (coldStarted s .command levels)) ∧
    (restartIsDue s .warm →
      ∃ t, exec (.restartBegin levels) s = .next t ∧ warmRestarted s t .command levels) ∧
    ((∀ k, ¬restartIsDue s k) → exec (.restartBegin levels) s = .next s)

/-- Main power and the retention supply (R187): a loss of main power, a retention supply that falls low while main
power is off, and what a return of main power brings by the retention supply and the retained-memory check: a cold
start, or a warm restart. That a fall while power is on is no fall since its removal is log 38; that power off freezes
the state and that the timebase starts at 0 is log 23; that the levels found come with the row is log 5; the choices
of a warm restart are log 7, 8, 9 and 34. -/
def Obligations.PowerRowsChooseTheRestart : Prop :=
  ∀ s : State,
    (s.power.mainOn = true →
      exec .mainPowerLost s = .next { s with power := { mainOn := false, retentionValid := true } } ∧
      exec .retentionSupplyLow s = .next s ∧
      ∀ check levels, exec (.mainPowerApplied check levels) s = .next s) ∧
    (s.power.mainOn = false →
      let on : State := { s with power := { mainOn := true, retentionValid := true }, timebase := 0 }
      exec .mainPowerLost s = .next s ∧
      exec .retentionSupplyLow s = .next { s with power := { s.power with retentionValid := false } } ∧
      (s.power.retentionValid = false → ∀ check levels,
        exec (.mainPowerApplied check levels) s = .next (coldStarted on .retentionLost levels)) ∧
      (s.power.retentionValid = true → ∀ levels,
        exec (.mainPowerApplied false levels) s = .next (coldStarted on .checkFailed levels) ∧
        ∃ t, exec (.mainPowerApplied true levels) s = .next t ∧ warmRestarted on t .powerReturned levels))

/-- CARRIER_LOST and CARRIER_REGAINED (R153, R154, R156): the loss of the trunk discards the frames both ways,
owes the notices of discarded Through-up frames, and decides every referral by fallback, oldest first; carrier
alone brings no trunk Up. That both rows move the carrier while main power is off is the model's choice (log 23). -/
def Obligations.CarrierRowsMoveTheTrunk : Prop :=
  ∀ s : State,
    exec .carrierRegained s = .next { s with trunk := { s.trunk with carrier := true } } ∧
    (s.power.mainOn = false → exec .carrierLost s = .next { s with trunk := { s.trunk with carrier := false } }) ∧
    (s.power.mainOn = true → s.trunk.up = false →
      exec .carrierLost s =
        .next { s with trunk := { s.trunk with carrier := false, received := [], silence := 0 } }) ∧
    (s.power.mainOn = true → s.trunk.up = true →
      exec .carrierLost s = .next (fallenBack s.referral.list (noticesOfLost s.trunk.outgoing (withEvent
        { s with trunk := { up := false, carrier := false, received := [], silence := 0, outgoing := [] } }
        { kind := .trunkDown }))))

/-- Bytes of the trunk (R176): a byte arrives after the commands that wait (log 15), is not received without main power
and carrier (log 16), and else the receiver settles at once every frame that it completes or shows to be not readable;
their rows join the queue. When the receiver has settled what it holds, it holds nothing or the bytes of one frame that
waits, and after a gap longer than 50 ms it holds nothing. FRAME_GAP_TIMEOUT and LENGTH_NOT_READABLE: a frame held whose
Length is readable and which is not complete after a gap of more than 50 ms is discarded, and so is one whose Length lies
outside 4 to 1,028 or does not come (log 15); a Down trunk stays Down and no Status is handed. That a row which stands
before its time changes nothing is the model's choice (log 2). -/
def Obligations.TrunkBytesAreFramedOrDiscarded : Prop :=
  ((∀ (s : State) (b : Byte),
    (∀ t, s.pending ≠ [] → step s = .next t → s.receiveByte b = t.receiveByte b) ∧
    (s.pending = [] → s.power.mainOn = false ∨ s.trunk.carrier = false → s.receiveByte b = s) ∧
    (s.pending = [] → s.power.mainOn = true → s.trunk.carrier = true →
      let bs := s.trunk.received ++ [b]
      let f := framesTaken 0 (bs.length + 1) s.trunk.up bs
      s.receiveByte b = { s with trunk := { s.trunk with received := f.2, silence := 0 }, pending := f.1 })) ∧
  ∀ (silence : Nat) (up : Bool) (bs : List Byte),
    let left := (framesTaken silence (bs.length + 1) up bs).2
    (∀ up, frameTaken up silence left = none) ∧ (50 < silence → left = []) ∧
      (left = [] ∨ ∃ rest, left = 0xC3#8 :: rest)) ∧
  (∀ s : State, s.power.mainOn = true →
    let t : State := { s with trunk := { s.trunk with
      received := (afterMarker s.trunk.received).dropWhile fun b => b != 0xC3#8 } }
    (∀ n, lengthOf s.trunk.received = some n →
      (4 ≤ n → n ≤ 1028 → behindLength s.trunk.received < n + 2 → 50 < s.trunk.silence →
        exec .frameGapTimeout s = .next t) ∧
      (s.trunk.silence ≤ 50 → exec .frameGapTimeout s = .next s) ∧
      (n < 4 ∨ 1028 < n → exec .lengthNotReadable s = .next t) ∧
      (4 ≤ n → n ≤ 1028 → exec .lengthNotReadable s = .next s)) ∧
    (lengthOf s.trunk.received = none →
      exec .frameGapTimeout s = .next s ∧
      (50 < s.trunk.silence → 0xC3#8 ∈ s.trunk.received → exec .lengthNotReadable s = .next t) ∧
      (s.trunk.silence ≤ 50 → exec .lengthNotReadable s = .next s)))

namespace Sys2Proof.Claims

/-- A line is replaced. -/
def withLine (s : State) (l : LineNo) (x : Line) : State := { s with lines := s.lines.set l x }

/-- The content of a Poll, the first case of R26 that applies. -/
def pollCase (r : StationRec) : PollContent :=
  if r.state = .outOfService then .test
  else if r.state = .absent then .plain
  else
    match r.notice with
    | some n => .notice n
    | none =>
      match r.openRequest with
      | some q =>
        match q.state with
        | .deciding => .pending q.number
        | .ready v => .verdict q.number v
        | .offered v => .verdict q.number v
      | none =>
        match r.queue with
        | d :: _ => .through d
        | [] => .plain

/-- The end of an exchange: a round whose last exchange has ended ends, and the count rises, after 15 to 0, on
a Running line that no Line Settings command holds (R28, R35). -/
def exchangeEnded (x : Line) : Line :=
  if x.round = some [] then
    { x with exchange := none, round := none,
             roundCount := if x.state = .running ∧ x.wait = none then (x.roundCount + 1) % 16 else x.roundCount }
  else { x with exchange := none }

/-- A waiting line whose last open request has closed: the new settings take hold and it enters Settling
(R35). -/
def settledIfClear (x : Line) : Line :=
  match x.wait with
  | some w =>
    if x.stations.any fun r => r.openRequest.isSome then x
    else { x with settings := w.settings, state := .settling, settleLeft := w.settings.settle, wait := none,
                  exchange := none, round := none }
  | none => x

/-- A Present station becomes Absent (R29): Station Absent with the miss count, its open request, notice and
referral discarded, and at a Gate its pending passage abandoned. -/
def madeAbsent (s : State) (l : LineNo) (r : StationRec) : State :=
  let st : Station := { line := l, addr := r.addr }
  let t := withEvent (s.setStation l
      { r with misses := r.misses + 1, state := .absent, openRequest := none, notice := none })
    { kind := .stationAbsent, station := some st, detail := some (.missCount (r.misses + 1)) }
  let u : State := { t with referral := { t.referral with
    list := t.referral.list.filter fun x => x.presentation.station != st } }
  let v := if r.kind = .gate then passageAbandoned u st .abandonedAbsent else u
  withLine v l (settledIfClear (v.line l))

/-- A count that stops at 65535. -/
def raised (n : Nat) : Nat := if n < 65535 then n + 1 else 65535

/-- The exchange on a line has drawn no good Reply (R27, R29, R38): nothing is taken of a station that has been
removed, an Absent station stays as it is, in Test an echo failed, and a Present station has a miss. -/
def missTaken (s : State) (l : LineNo) (e : Exchange) : State :=
  let t := withLine s l (exchangeEnded (s.line l))
  if e.taken = false then t
  else
    match t.station? { line := l, addr := e.addr } with
    | none => t
    | some r =>
      match r.state with
      | .outOfService => t.setStation l { r with echoFailed := raised r.echoFailed }
      | .absent => t
      | .present =>
        if r.misses + 1 < t.engine.profile.missLimit then t.setStation l { r with misses := r.misses + 1 }
        else madeAbsent t l r

/-- The record of a station from which a good Reply comes to an exchange (R27, R30, R32, R33, R41). -/
def replied (r : StationRec) (e : Exchange) : StationRec :=
  { r with
    misses := 0
    state := .present
    notice := match e.content with
      | .notice _ => if e.noticeLive then none else r.notice
      | _ => r.notice
    queue := match e.content with
      | .through _ => r.queue.drop 1
      | _ => r.queue
    openRequest := match e.content with
      | .verdict _ _ => r.openRequest.map fun q =>
        match q.state with
        | .ready v => { q with state := .offered v }
        | _ => q
      | _ => r.openRequest }

/-- A good Reply is taken: the exchange ends, the record follows, and an Absent station is Present with Station
Present (R30). -/
def heard (s : State) (l : LineNo) (r : StationRec) (e : Exchange) : State :=
  let t := (withLine s l (exchangeEnded (s.line l))).setStation l (replied r e)
  if r.state = .absent then
    withEvent t { kind := .stationPresent, station := some { line := l, addr := r.addr } }
  else t

/-- The exchange on a line awaits the Reply of a station that is enrolled. -/
def awaits (s : State) (st : Station) (r : StationRec) (e : Exchange) : Prop :=
  s.power.mainOn = true ∧ (s.line st.line).exchange = some e ∧ e.taken = true ∧ e.addr = st.addr ∧
  s.station? st = some r

/-- A sensor word is taken from a Lock station (R45). -/
def wordTaken (s : State) (st : Station) (r : StationRec) (word : Sensors) : State :=
  if r.kind = .lock then s.takeWord st word else s

/-- A notice is owed to an enrolled station, in place of one owed before; one that is on the wire to it is no
longer the one it is owed (R33). -/
def owedNotice (s : State) (st : Station) (r : StationRec) (n : Notice) : State :=
  let t := s.setStation st.line { r with notice := some n }
  match (t.line st.line).exchange with
  | some e =>
    if e.addr = st.addr then withLine t st.line { t.line st.line with exchange := some { e with noticeLive := false } }
    else t
  | none => t

/-- The exchange has ended, and the echo of a station in Test has failed (R38). -/
def echoFailed (s : State) (l : LineNo) (r : StationRec) : State :=
  (withLine s l (exchangeEnded (s.line l))).setStation l { r with echoFailed := raised r.echoFailed }

end Sys2Proof.Claims

/-! ## Reader lines -/

/-- POLL (R26, R28, R35, R38): a free line that carries exchanges polls the next address of its round, or of the
next round, and the Poll carries the first case of R26; another line, and one with nothing to poll, does
nothing. That an empty round passes over to the recovery polls of count 0 is the model's choice (log 13). -/
def Obligations.PollCarriesTheFirstCase : Prop :=
  ∀ (s : State) (l : LineNo), s.power.mainOn = true →
    let x := s.line l
    let n := if leftInRound x = [] then nextRound x else (leftInRound x, x.roundCount)
    (x.exchange ≠ none ∨ x.state = .stopped ∨ x.state = .settling ∨ n.1 = [] →
      exec (.poll l) s = .next s) ∧
    (∀ (a : Nat) (rest : List Nat), x.exchange = none → (x.state = .running ∨ x.state = .test) →
      n.1 = a :: rest → ∃ r, lookup StationRec.addr a x.stations = some r ∧
        exec (.poll l) s = .next (withLine s l { x with
          round := some rest, roundCount := n.2
          exchange := some { addr := a, content := pollCase r, left := x.settings.replyTimeout, taken := true,
                             noticeLive := true } }))

/-- REPLY_TIMEOUT and BAD_REPLY (R27, R29): the exchange on the line, if one is, ends as a miss; the reply timeout must
have run out (log 2). A Reply that its line does not await (R27, R28): without an exchange nothing is changed, and a
Reply from another address, or to an exchange whose station has been removed, ends the exchange as a miss. -/
def Obligations.MissesLeadToAbsence : Prop :=
  (∀ (s : State) (l : LineNo), s.power.mainOn = true →
    ((s.line l).exchange = none → exec (.badReply l) s = .next s ∧ exec (.replyTimeout l) s = .next s) ∧
    (∀ e, (s.line l).exchange = some e →
      exec (.badReply l) s = .next (missTaken s l e) ∧
      (e.left = 0 → exec (.replyTimeout l) s = .next (missTaken s l e)) ∧
      (e.left ≠ 0 → exec (.replyTimeout l) s = .next s))) ∧
  (∀ (c : Instr) (s : State) (st : Station) (word : Sensors) (number : Nat) (q : Request) (data : List Byte),
    s.power.mainOn = true →
    c ∈ [Instr.idle st word, .request st word number q, .acknowledge st word number, .throughUp st data,
         .echo st data] →
    ((s.line st.line).exchange = none → exec c s = .next s) ∧
    (∀ e, (s.line st.line).exchange = some e → (e.taken = false ∨ e.addr ≠ st.addr ∨ s.station? st = none) →
      exec c s = .next (missTaken s st.line e)))

/-- IDLE, ACKNOWLEDGE and REQUEST on a line that carries its rounds (R27, R31, R32, R33, R45): the record follows
the good Reply, a Lock's sensor word is taken, an Acknowledge of the open request's number to a Poll that
carried the verdict closes it, and a Request is opened and handed to the Card Check Unit, or turned away
BUSY. That a Request is opened also while a Line Settings command waits, from a station polled before the wait,
is the model's reading (log 14). -/
def Obligations.GoodRepliesAreTaken : Prop :=
  ∀ (s : State) (st : Station) (r : StationRec) (e : Exchange) (word : Sensors) (number : Nat) (q : Request),
    awaits s st r e → r.state ≠ .outOfService →
    let r' := replied r e
    let t := wordTaken (heard s st.line r e) st r word
    let closed := t.setStation st.line { r' with openRequest := none }
    exec (.idle st word) s = .next t ∧
    (∀ o, (∃ n v, e.content = .verdict n v) → r.openRequest = some o → o.number = number →
      exec (.acknowledge st word number) s =
        .next (withLine closed st.line (settledIfClear (closed.line st.line)))) ∧
    (((∀ n v, e.content ≠ .verdict n v) ∨ ∀ o, r.openRequest = some o → o.number ≠ number) →
      exec (.acknowledge st word number) s = .next t) ∧
    (r.openRequest ≠ none →
      exec (.request st word number q) s = .next (owedNotice t st r' { reason := .busy, number := some number })) ∧
    (r.openRequest = none →
      exec (.request st word number q) s = .next ((t.setStation st.line
        { r' with openRequest := some { number := number, request := q, state := .deciding } }).takeRequest
          st r.kind number q))

/-- THROUGH_UP and ECHO (R38, R41, R156), and every Reply on a line in Test (R38): Through-up data of 1 to 64 bytes
from a Through station leave as a frame while the trunk is Up, and owe a notice while it is Down; other
Through-up Replies (log 31) and an Echo outside Test are misses; in Test the pattern unchanged is good. -/
def Obligations.ThroughUpAndTestReplies : Prop :=
  ∀ (s : State) (st : Station) (r : StationRec) (e : Exchange) (word : Sensors) (number : Nat) (q : Request)
    (data : List Byte), awaits s st r e →
    (r.state ≠ .outOfService →
      let t := heard s st.line r e
      (r.kind = .through → 1 ≤ data.length → data.length ≤ 64 →
        (s.trunk.up = true → exec (.throughUp st data) s = .next (withFrame t (.throughUp st data))) ∧
        (s.trunk.up = false → exec (.throughUp st data) s =
          .next (owedNotice t st (replied r e) { reason := .outOfService, number := none }))) ∧
      (r.kind ≠ .through ∨ data.length = 0 ∨ 64 < data.length →
        exec (.throughUp st data) s = .next (missTaken s st.line e)) ∧
      exec (.echo st data) s = .next (missTaken s st.line e)) ∧
    (r.state = .outOfService →
      let t := echoFailed s st.line r
      exec (.idle st word) s = .next t ∧ exec (.acknowledge st word number) s = .next t ∧
      exec (.throughUp st data) s = .next t ∧
      exec (.request st word number q) s = .next (owedNotice t st { r with echoFailed := raised r.echoFailed }
        { reason := .outOfService, number := some number }) ∧
      (data = [0x00#8, 0xFF#8, 0x55#8, 0xAA#8, 0x0F#8, 0xF0#8, 0x33#8, 0xCC#8,
               0x01#8, 0x02#8, 0x04#8, 0x08#8, 0x10#8, 0x20#8, 0x40#8, 0x80#8] →
        exec (.echo st data) s = .next ((withLine s st.line (exchangeEnded (s.line st.line))).setStation st.line
          { r with echoGood := raised r.echoGood })) ∧
      (data ≠ [0x00#8, 0xFF#8, 0x55#8, 0xAA#8, 0x0F#8, 0xF0#8, 0x33#8, 0xCC#8,
               0x01#8, 0x02#8, 0x04#8, 0x08#8, 0x10#8, 0x20#8, 0x40#8, 0x80#8] →
        exec (.echo st data) s = .next t))

namespace Sys2Proof.Claims

/-- A new station record (R24). -/
def enrolled (addr : Nat) (kind : StationKind) (state : StationState) : StationRec :=
  { addr := addr, kind := kind, state := state, misses := 0, openRequest := none, notice := none
    repeatRecord := none, queue := [], echoGood := 0, echoFailed := 0 }

/-- A slot of a line is emptied (R25): its address leaves the round, a Reply still on the wire is not taken
(R28), and a round that has nothing left and no exchange ends. -/
def slotEmptied (x : Line) (addr : Nat) : Line :=
  let y : Line := { x with
    stations := x.stations.filter fun r => r.addr != addr
    round := x.round.map fun l => l.filter fun a => a != addr
    exchange := x.exchange.map fun e => if e.addr = addr then { e with taken := false } else e }
  if y.exchange = none then exchangeEnded y else y

/-- The line enters Settling with new settings (R35). -/
def settling (x : Line) (new : LineSettings) : Line :=
  { x with settings := new, state := .settling, settleLeft := new.settle, wait := none, exchange := none
           round := none }

/-- A station's part in a line test at its start (R37) and its end (R39). -/
def testStarted (r : StationRec) : StationRec :=
  { r with state := .outOfService, misses := 0, notice := none, echoGood := 0, echoFailed := 0 }

/-- A station at the end of a line test (R39). -/
def testEnded (r : StationRec) : StationRec := { r with state := .present, misses := 0 }

/-- A Command that ends later: its Status with a result, and the Command Engine Idle (R180). -/
def commandEnded (s : State) (result : ExecResult) : State :=
  match s.engine.state with
  | .executing kind tag =>
    let t : State := { s with engine := { s.engine with state := .idle } }
    if s.trunk.up then withStatus t 1 kind tag result else t
  | _ => s

/-- A cabin's lock-out is set or lifted by a Cabin Write (R61). -/
def lockOutWritten (s : State) (c : Cabin) (set : Bool) : State :=
  match set, c.lockState with
  | true, .lockedOut _ => { s with cabins := put Cabin.key { c with lockState := .lockedOut .command } s.cabins }
  | true, _ =>
    withEvent { s with cabins := put Cabin.key { c with lockState := .lockedOut .command } s.cabins }
      { kind := .lockOutSet, station := c.data.lock, cabin := some c.data.number, detail := some .command }
  | false, .lockedOut _ =>
    withEvent { s with cabins := put Cabin.key { c with lockState := .secured } s.cabins }
      { kind := .lockOutLifted, station := c.data.lock, cabin := some c.data.number, detail := some .command }
  | false, _ => s

end Sys2Proof.Claims

/-! ## Enrolment, pass-through queues, line settings, line test -/

/-- STATION_ENROLL, the first case of R24 that applies; a code out of its list and kind data that do not belong to the
kind give no station or no kind. STATION_REMOVE, the first case of R25 that applies; the holds of a removed Bar are
detached (R82). -/
def Obligations.StationsAreEnrolledAndRemoved : Prop :=
  (∀ (s : State) (tag line addr kind : Nat) (data : Option Nat), takes s →
    let t := up s
    exec (.stationEnroll tag line addr kind data) s = .next (answered 8 tag (
      match readStation line addr, readStationKind kind data with
      | some st, some k =>
        let x := t.line st.line
        if t.station? st ≠ none then (t, .inUse, .none)
        else if k = .gate ∧ 16 ≤ gatesEnrolled t then (t, .full, .none)
        else
          (withLine t st.line
            { x with
              stations := put StationRec.addr
                (enrolled addr k (if x.state = .test then .outOfService else .present)) x.stations
              state := if x.state = .stopped then .running else x.state
              roundCount := if x.state = .stopped then 0 else x.roundCount }, .ok, .none)
      | _, _ => (t, .parameter, .none)))) ∧
  (∀ (s : State) (tag line addr : Nat), takes s →
    let t := up s
    exec (.stationRemove tag line addr) s = .next (answered 9 tag (
      match readStation line addr with
      | none => (t, .parameter, .none)
      | some st =>
        match t.station? st with
        | none => (t, .notFound, .none)
        | some r =>
          if r.openRequest ≠ none then (t, .inUse, .none)
          else if r.kind = .gate ∧ ∃ p ∈ t.passage.passages, p.gate = st then (t, .inUse, .none)
          else if r.kind = .lock ∧ ∃ c ∈ t.cabins, c.data.lock = some st then (t, .inUse, .none)
          else
            let u := withLine t st.line (slotEmptied (t.line st.line) addr)
            (if (match r.kind with | .bar _ => true | _ => false) then
              { u with charge := { u.charge with
                  holds := u.charge.holds.map fun h => if h.station = st then { h with detached := true } else h } }
             else u, .ok, .none))))

/-- THROUGH_DOWN (R40, R155), the first case that applies, taken whatever the Command Engine is doing. -/
def Obligations.ThroughDownJoinsTheQueue : Prop :=
  ∀ (s : State) (tag line addr : Nat) (data : List Byte), receives s →
    let t := up s
    exec (.throughDown tag line addr data) s = .next (
      match (readStation line addr).bind fun st => (t.station? st).map fun r => (st, r) with
      | none => withStatus t 6 0 tag .parameter
      | some (st, r) =>
        if r.kind ≠ .through then withStatus t 6 0 tag .parameter
        else if data.length = 0 ∨ 64 < data.length then withStatus t 6 0 tag .parameter
        else if 4 ≤ r.queue.length then withStatus t 6 0 tag .full
        else withStatus (t.setStation st.line { r with queue := r.queue ++ [data] }) 6 0 tag .ok)

/-- LINE_SETTINGS (R35): refused, taken at once on a Stopped line, or begun: on a Running line it enters Settling, or
waits while the line has open requests, the Command Engine Executing until it ends (BUSY on a Settling line is log 21,
PARAMETER before the BUSY of a Test line log 37).
SETTLE_INTERVAL_END and LINE_SETTINGS_WAIT_TIMEOUT (R35, R36): the line runs with round count 0 and the Command ends
OK; or the wait ends, the old settings stay and the Command ends BUSY. Neither acts before its time (log 2). The
model's choices: the exchange and the round end on entering Settling (log 12), and a fresh round begins at the held
count after the wait timeout (log 13). -/
def Obligations.LineSettingsTakeHoldWhenClear : Prop :=
  (∀ (s : State) (tag line speed reply settle : Nat), takes s →
    let t := up s
    let begun (x : State) : State := { x with engine := { x.engine with state := .executing 5 tag } }
    exec (.lineSettings tag line speed reply settle) s = .next (
      match readLine line, readSpeed speed with
      | some l, some sp =>
        let x := t.line l
        let new : LineSettings := { speed := sp, replyTimeout := reply, settle := settle }
        if ¬(2 ≤ reply ∧ reply ≤ 50 ∧ 10 ≤ settle ∧ settle ≤ 500) then withStatus t 1 5 tag .parameter
        else if x.state = .test ∨ x.state = .settling then withStatus t 1 5 tag .busy
        else if x.state = .stopped then withStatus (withLine t l { x with settings := new }) 1 5 tag .ok
        else if x.stations.any fun r => r.openRequest.isSome then
          begun (withLine t l { x with
            wait := some { settings := new, left := t.engine.profile.loadGapTimeout * 1000 } })
        else begun (withLine t l (settling x new))
      | _, _ => withStatus t 1 5 tag .parameter)) ∧
  (∀ (s : State) (l : LineNo), s.power.mainOn = true →
    let x := s.line l
    (x.state = .settling → x.settleLeft = 0 → exec (.settleIntervalEnd l) s = .next (commandEnded
      (withLine s l { x with state := .running, round := none, roundCount := 0 }) .ok)) ∧
    (x.state ≠ .settling ∨ x.settleLeft ≠ 0 → exec (.settleIntervalEnd l) s = .next s) ∧
    (∀ w, x.wait = some w → w.left = 0 → exec (.lineSettingsWaitTimeout l) s = .next (commandEnded
      (withLine s l { x with wait := none, round := none }) .busy)) ∧
    ((∀ w, x.wait = some w → w.left ≠ 0) → exec (.lineSettingsWaitTimeout l) s = .next s))

/-- LINE_TEST_START and LINE_TEST_END (R37, R39), the first case that applies. That the exchange and the round end
on entering and on leaving Test is the model's choice (log 12). -/
def Obligations.LineTestStartsAndEnds : Prop :=
  ∀ (s : State) (tag line : Nat), takes s →
    let t := up s
    exec (.lineTestStart tag line) s = .next (answered 6 tag (
      match readLine line with
      | none => (t, .parameter, .none)
      | some l =>
        let x := t.line l
        if x.state = .stopped ∨ x.state = .test then (t, .parameter, .none)
        else if x.stations.any fun r => r.openRequest.isSome then (t, .busy, .none)
        else
          (withLine t l { x with
            state := .test, stations := x.stations.map testStarted, exchange := none, round := none },
            .ok, .none))) ∧
    exec (.lineTestEnd tag line) s = .next (answered 7 tag (
      match readLine line with
      | none => (t, .parameter, .none)
      | some l =>
        let x := t.line l
        if x.state = .test then
          (withLine t l { x with
            state := .running, stations := x.stations.map testEnded, exchange := none, round := none,
            roundCount := 0 },
            .ok, .echoes (x.stations.map fun r => (r.addr, r.echoGood, r.echoFailed)))
        else (t, .parameter, .none)))

/-! ## Cabin Write -/

/-- CABIN_WRITE (R61, R62), the first case that applies; on OK the parts are applied in the order lock-out, watch,
tamper, and the watch part re-evaluates the watch (R59). -/
def Obligations.CabinWriteAppliesItsParts : Prop :=
  ∀ (s : State) (tag n : Nat) (lockOut : Option Nat) (watch : Option (Nat × Nat)) (tamper : Option Nat), takes s →
    let t := up s
    (¬(1 ≤ n ∧ n ≤ 9999) ∨ (lockOut = none ∧ watch = none ∧ tamper = none)
        ∨ (∃ v ∈ lockOut, v ≠ 1 ∧ v ≠ 2) ∨ (∃ v ∈ watch, 16 ≤ v.1 ∨ 16 ≤ v.2) ∨ (∃ v ∈ tamper, v ≠ 1 ∧ v ≠ 2) →
      exec (.cabinWrite tag n lockOut watch tamper) s = .next (withStatus t 1 15 tag .parameter)) ∧
    (1 ≤ n → n ≤ 9999 → ¬(lockOut = none ∧ watch = none ∧ tamper = none) →
      (∀ v ∈ lockOut, v = 1 ∨ v = 2) → (∀ v ∈ watch, v.1 < 16 ∧ v.2 < 16) → (∀ v ∈ tamper, v = 1 ∨ v = 2) →
      (t.cabin? n = none →
        exec (.cabinWrite tag n lockOut watch tamper) s = .next (withStatus t 1 15 tag .notFound)) ∧
      (∀ c, t.cabin? n = some c →
        let u1 := match lockOut with
          | some v => lockOutWritten t c (v == 1)
          | none => t
        let c1 : Cabin := { c with lockState := match lockOut, c.lockState with
          | some 1, _ => .lockedOut .command
          | some _, .lockedOut _ => .secured
          | _, old => old }
        ∃ c2 : Cabin,
          (watch = none → c2 = c1) ∧
          (∀ p m pattern mask, watch = some (p, m) → readSensorSet p = some pattern → readSensorSet m = some mask →
            ∃ w, c2 = { c1 with data := { c1.data with pattern := pattern, mask := mask }, watch := w } ∧
              reevaluatedTo { c1 with data := { c1.data with pattern := pattern, mask := mask } } w) ∧
          (let u2 : State := if watch = none then u1 else { u1 with cabins := put Cabin.key c2 u1.cabins }
          exec (.cabinWrite tag n lockOut watch tamper) s = .next (withStatus
            (match tamper with
              | none => u2
              | some v => { u2 with cabins := (put Cabin.key
                  { c2 with data := { c2.data with
                      tamper := if v = 1 then TamperAction.none else TamperAction.lockOut } } u2.cabins) })
            1 15 tag .ok))))

namespace Sys2Proof.Claims

/-- The tag given next (R72, R143): of 1 to 65535, not one that is held, the lowest above the last tag given; going on
from 1 where every one above it is held. -/
def tagGiven (held : List Nat) (last tag : Nat) : Prop :=
  tag ∉ held ∧ 1 ≤ tag ∧ tag ≤ 65535 ∧
  ((last < tag ∧ ∀ k, last < k → k < tag → k ∈ held) ∨
    ((∀ k, last < k → k ≤ 65535 → k ∈ held) ∧ ∀ k, 1 ≤ k → k < tag → k ∈ held))

/-- A verdict of a reason, with no hold tag. -/
def verdictOf (r : Reason) : Verdict := { reason := r, holdTag := none }

/-- A reason as the outcome of a decision that changes the state so. -/
def decided (r : State × Reason) : State × Verdict := (r.1, verdictOf r.2)

/-- The kind part and the job of a form (R1, R2): the part of the enrolled kind, its codes among those of
R189. -/
def jobOf (kind : StationKind) (part : KindPart) : Option JobPart :=
  match kind, part with
  | .lock, .gesture 1 => some .openDoor
  | .lock, .gesture 2 => some .lockout
  | .bar _, .sale amount 1 reference => some (.authorize amount .ordinary reference)
  | .bar _, .sale amount 2 reference => some (.authorize amount .restricted reference)
  | .gate, .direction 1 => some (.passage .outbound)
  | .gate, .direction 2 => some (.passage .inbound)
  | .musterPoint m, .none => some (.muster m)
  | _, _ => none

/-- The repeat record of the presentation's station names its card within the repeat window (R14, R15). -/
def repeats (s : State) (p : Presentation) : Prop :=
  ∃ r rec, s.station? p.station = some r ∧ r.repeatRecord = some rec ∧ rec.card = p.card ∧
    s.timebase - rec.time < s.engine.profile.repeatWindow * 1000

/-- The vessel code is accepted (R14). -/
def vesselKnown (s : State) (v : Nat) : Prop := some v ∈ s.engine.vesselCodes.toList

/-- A card event of R21. -/
def cardEvent (s : State) (k : EventKind) (p : Presentation) : State :=
  withEvent s { kind := k, station := some p.station, card := some p.card }

/-- A validity window and the clock (R19): in force, over, or not to be told. -/
def inForce (e : CardEntry) (now : Option DateTime) : Prop :=
  e.data.window = none ∨
    ∃ a b t, e.data.window = some (a, b) ∧ now = some t ∧ timeKey a ≤ timeKey t ∧ timeKey t ≤ timeKey b

/-- Outside the window (R19). -/
def expired (e : CardEntry) (now : Option DateTime) : Prop :=
  ∃ a b t, e.data.window = some (a, b) ∧ now = some t ∧ ¬(timeKey a ≤ timeKey t ∧ timeKey t ≤ timeKey b)

/-- What the issue, status and validity checks come to on an entry (R17, R18, R19). -/
def checked (s : State) (p : Presentation) (e : CardEntry) (o : CheckOutcome) : Prop :=
  (p.issue < e.data.issue ∧ o = .refused .superseded (some .supersededCard)) ∨
  (e.data.issue < p.issue ∧ o = .referred .higherIssue) ∨
  (p.issue = e.data.issue ∧ e.data.status = .blocked ∧ o = .refused .blocked (some .blockedCard)) ∨
  (p.issue = e.data.issue ∧ e.data.status = .active ∧
    ((inForce e s.engine.voyage.time ∧ o = .passed) ∨
     (expired e s.engine.voyage.time ∧ o = .refused .expired none) ∨
     (e.data.window ≠ none ∧ s.engine.voyage.time = none ∧ o = .referred .windowClockUnset)))

/-- A refusal by a check with its card event, where it has one (R21). -/
def refusedBy (s : State) (p : Presentation) (number : Nat) (r : Reason) (event : Option EventKind) : State :=
  match event with
  | some k => (cardEvent s k p).giveVerdict p number (verdictOf r)
  | none => s.giveVerdict p number (verdictOf r)

/-- The repeat record of a Lock, Gate or Muster Point takes the card and the time of a verdict (R15). -/
def repeatWritten (s : State) (p : Presentation) : State :=
  match s.station? p.station with
  | some r =>
    match r.kind with
    | .lock | .gate | .musterPoint _ =>
      s.setStation p.station.line { r with repeatRecord := some { card := p.card, time := s.timebase } }
    | _ => s
  | none => s

/-- The gesture of a presentation at a Lock. -/
def gestureOf (p : Presentation) : Option Gesture :=
  match p.part with
  | .openDoor => some .openDoor
  | .lockout => some .lockout
  | _ => none

/-- The access trail of the cabin linked to the presentation's Lock takes a verdict and keeps the 8 latest
(R56). -/
def trailed (s : State) (p : Presentation) (r : Reason) : State :=
  match gestureOf p, s.cabinAt? p.station with
  | some g, some c =>
    let trail := c.trail ++ [{ card := p.card, time := s.engine.voyage.time, gesture := g, reason := r }]
    { s with cabins := put Cabin.key { c with trail := trail.drop (trail.length - 8) } s.cabins }
  | _, _ => s

/-- The Line Controller takes a verdict (R32, R113; log 30): Ready in the open request it answers, else dropped,
and then a granted crossing's passage is abandoned. -/
def verdictTaken (s : State) (st : Station) (number : Nat) (crossing : Bool) (v : Verdict) : State :=
  match (s.station? st).bind fun r => r.openRequest.map fun q => (r, q) with
  | some (r, q) =>
    if q.number = number ∧ q.state = .deciding then
      s.setStation st.line { r with openRequest := some { q with state := .ready v } }
    else if crossing ∧ v.reason = .granted then passageAbandoned s st .abandonedAbsent else s
  | none => if crossing ∧ v.reason = .granted then passageAbandoned s st .abandonedAbsent else s

/-- The fallback policy is a grant (R146). -/
def grantsByFallback (s : State) (p : Presentation) : Prop :=
  (p.part = .openDoor ∧ s.engine.profile.openFallback = .grant) ∨
  ((∃ d, p.part = .passage d) ∧ s.engine.profile.passageFallback = .grant) ∨ ∃ m, p.part = .muster m

/-- A fallback: the verdict and its Referral Fallback event (R146). -/
def fallbackOf (p : Presentation) (number : Nat) (why : FallbackCause) (d : State × Verdict) : State :=
  withEvent (d.1.giveVerdict p number d.2)
    { kind := .referralFallback, station := some p.station, card := some p.card, detail := some (.cause why) }

/-- A cabin replaced in the Cabin Table. -/
def withCabin (s : State) (c : Cabin) : State := { s with cabins := put Cabin.key c s.cabins }

/-- A cabin after a GRANTED open (R51): it stays locked out, else its window opens; both ends are set from the
verdict, and the watch is re-evaluated. -/
def opened (s : State) (c : Cabin) (c' : Cabin) : Prop :=
  let d : Cabin := { c with
    lockState := match c.lockState with | .lockedOut h => .lockedOut h | _ => .openWindow
    windowEnd := some (s.timebase + s.engine.profile.openWindow * 1000)
    overrideEnd := some (s.timebase + s.engine.profile.openWindow * 1000 + s.engine.profile.entryGrace * 1000) }
  ∃ w, c' = { d with watch := w } ∧ reevaluatedTo d w

/-- The cabin is locked out. -/
def lockedOut (c : Cabin) : Prop := ∃ h, c.lockState = .lockedOut h

/-- The card reaches the cabin (R50). -/
def reachesCabin (e : CardEntry) (c : Cabin) : Prop :=
  match e.data.cls with
  | .guest | .junior | .crew => c.data.number ∈ e.data.cabins
  | .steward => c.data.zone ∈ e.data.zones
  | .officer => True

/-- Guest or Junior. -/
def isPassenger (c : HolderClass) : Prop := c = .guest ∨ c = .junior

/-- A lock-out event of a cabin by an officer's gesture (R54, R63). -/
def lockOutEvent (k : EventKind) (c : Cabin) (card : Nat) : EventRecord :=
  { kind := k, station := c.data.lock, card := some card, cabin := some c.data.number, detail := some .gesture }

/-- The sensors that mismatch include the tamper cover (R57, R60). -/
def tamperMismatch (c : Cabin) (w : Sensors) : Prop :=
  (maskInForce c).tamperCover = true ∧ w.tamperCover ≠ c.data.pattern.tamperCover

end Sys2Proof.Claims

/-! ## Card checks and verdicts -/

/-- A request handed on by a Line Controller (R1, R2, R3, R191): the form test, and each terminal request to the job
unit of its station's kind, PARAMETER where it does not belong to the kind. The common card checks in their order
(R13-R20): FOREIGN with Foreign Card unless a repeat, REPEAT but not at a Bar, a referral on a lookup miss, then the
issue, status and validity checks, and a presentation that passes them goes to its job unit. -/
def Obligations.RequestsAreCheckedInOrder : Prop :=
  (∀ (s : State) (st : Station) (kind : StationKind) (number : Nat),
    let refused := verdictTaken s st number false (verdictOf .parameter)
    (∀ v card issue part,
      (1 ≤ v → v ≤ 65535 → 1 ≤ card → card ≤ 16777215 → ∀ j, jobOf kind part = some j →
        s.takeRequest st kind number (.presentation v card issue part) = s.decidePresentation
          { station := st, vessel := v, card := card, issue := issue, part := j } number) ∧
      (¬(1 ≤ v ∧ v ≤ 65535 ∧ 1 ≤ card ∧ card ≤ 16777215) ∨ jobOf kind part = none →
        s.takeRequest st kind number (.presentation v card issue part) = refused)) ∧
    (∀ tag amount,
      ((∃ o, kind = .bar o) → s.takeRequest st kind number (.complete tag amount) =
        let d := decided (decideComplete s st tag amount)
        verdictTaken d.1 st number false d.2) ∧
      ((∃ o, kind = .bar o) → s.takeRequest st kind number (.cancel tag) =
        let d := decided (decideCancel s st tag)
        verdictTaken d.1 st number false d.2) ∧
      ((∀ o, kind ≠ .bar o) → s.takeRequest st kind number (.complete tag amount) = refused ∧
        s.takeRequest st kind number (.cancel tag) = refused)) ∧
    (∀ outcome,
      (kind = .gate → s.takeRequest st kind number (.passageReport outcome) =
        let d := decided (decideReport s st outcome)
        verdictTaken d.1 st number false d.2) ∧
      (kind ≠ .gate → s.takeRequest st kind number (.passageReport outcome) = refused))) ∧
  (∀ (s : State) (p : Presentation) (number : Nat),
    (¬vesselKnown s p.vessel → ¬repeats s p →
      s.decidePresentation p number = (cardEvent s .foreignCard p).giveVerdict p number (verdictOf .foreign)) ∧
    (¬vesselKnown s p.vessel → repeats s p →
      s.decidePresentation p number = s.giveVerdict p number (verdictOf .foreign)) ∧
    (vesselKnown s p.vessel → repeats s p → (∀ a g r, p.part ≠ .authorize a g r) →
      s.decidePresentation p number = verdictTaken s p.station number false (verdictOf .repeated)) ∧
    (vesselKnown s p.vessel → (¬repeats s p ∨ ∃ a g r, p.part = .authorize a g r) →
      (s.card? p.card = none → s.decidePresentation p number = s.refer p number .lookupMiss) ∧
      (∀ e o, s.card? p.card = some e → checked s p e o →
        s.decidePresentation p number =
          match o with
          | .refused r event => refusedBy s p number r event
          | .referred cause => s.refer p number cause
          | .passed => (decideJob s p e).1.giveVerdict p number (decideJob s p e).2)))

/-- A verdict given to a presentation writes the repeat record and the access trail, and is taken by the Line Controller
(R15, R32, R56, R113; log 30). The Referral Unit takes a presentation (R142, R143, R144, R146): a referral with the tag
given next (R143) and its Referral frame while the trunk is Up and fewer than 64 are held, else a fallback at once
by the policy of the job. -/
def Obligations.VerdictsReferralsAndFallbacks : Prop :=
  (∀ (s : State) (p : Presentation) (number : Nat) (v : Verdict),
    s.giveVerdict p number v =
      verdictTaken (trailed (repeatWritten s p) p v.reason) p.station number
        (match p.part with | .passage _ => true | _ => false) v) ∧
  (∀ (s : State) (p : Presentation) (number : Nat),
    (∀ cause, s.trunk.up = true → s.referral.list.length < 64 → ∃ tag,
      tagGiven (s.referral.list.map Referral.tag) s.referral.lastTag tag ∧
      s.refer p number cause = withFrame
        { s with referral :=
            { list := s.referral.list ++ [{ tag := tag, presentation := p, cause := cause, number := number,
                                            left := s.engine.profile.referralTimeout * 1000 }]
              lastTag := tag } }
        (.referral tag p cause)) ∧
    (∀ cause, s.trunk.up = false → s.refer p number cause = s.fallback p number .trunkDown) ∧
    (∀ cause, s.trunk.up = true → 64 ≤ s.referral.list.length →
      s.refer p number cause = s.fallback p number .listFull) ∧
    (∀ why, (¬grantsByFallback s p → s.fallback p number why = fallbackOf p number why (s, verdictOf .unknown)) ∧
      (grantsByFallback s p → s.fallback p number why = fallbackOf p number why (decideGrant s p))))

/-! ## Cabin access -/

/-- The decision on an Open gesture at a Lock (R48, R49, R50, R51), in the order of R49, and on a Lockout gesture (R54,
R63); and the decision on a grant without a card entry (R55). -/
def Obligations.LockGesturesAreDecided : Prop :=
  (∀ (s : State) (p : Presentation), p.part = .openDoor →
    (s.cabinAt? p.station = none →
      (∀ e, decideJob s p e = decided (s, .noCabin)) ∧ decideGrant s p = decided (s, .noCabin)) ∧
    (∀ c, s.cabinAt? p.station = some c →
      (lockedOut c → decideGrant s p = decided (s, .lockedOut)) ∧
      (¬lockedOut c → ∃ c', opened s c c' ∧ decideGrant s p = decided (withCabin s c', .granted)) ∧
      ∀ e,
        ((s.muster.state = .alert ∧ e.data.search = true) ∨ (lockedOut c ∧ e.data.cls = .officer) →
          ∃ c', opened s c c' ∧ decideJob s p e = decided (withCabin s c', .granted)) ∧
        (¬(s.muster.state = .alert ∧ e.data.search = true) →
          (lockedOut c → e.data.cls ≠ .officer → decideJob s p e = decided (s, .lockedOut)) ∧
          (¬lockedOut c → c.privacy = true → e.data.cls = .steward → decideJob s p e = decided (s, .privacy)) ∧
          (¬lockedOut c → ¬(c.privacy = true ∧ e.data.cls = .steward) →
            (¬reachesCabin e c → decideJob s p e = decided (s, .notListed)) ∧
            (reachesCabin e c → ∃ c', opened s c c' ∧
              (isPassenger e.data.cls → e.presence = .ashore → decideJob s p e = decided (withEvent (withCabin s c')
                { kind := .presenceAnomaly, station := some p.station, card := some e.data.number,
                  cabin := some c.data.number }, .granted)) ∧
              (¬(isPassenger e.data.cls ∧ e.presence = .ashore) →
                decideJob s p e = decided (withCabin s c', .granted))))))) ∧
  (∀ (s : State) (p : Presentation) (e : CardEntry), p.part = .lockout →
    decideGrant s p = decided (s, .unknown) ∧
    (s.cabinAt? p.station = none → decideJob s p e = decided (s, .noCabin)) ∧
    (∀ c, s.cabinAt? p.station = some c →
      (e.data.cls = .officer → lockedOut c → decideJob s p e =
        decided (withEvent (withCabin s { c with lockState := .secured })
          (lockOutEvent .lockOutLifted c e.data.number), .granted)) ∧
      (e.data.cls = .officer → ¬lockedOut c → decideJob s p e =
        decided (withEvent (withCabin s { c with lockState := .lockedOut (.officer e.data.number) })
          (lockOutEvent .lockOutSet c e.data.number), .granted)) ∧
      (e.data.cls ≠ .officer → lockedOut c → decideJob s p e = decided (s, .lockedOut)) ∧
      (e.data.cls ≠ .officer → ¬lockedOut c → decideJob s p e = decided (s, .notListed))))

/-- A sensor word taken for the cabin linked to a Lock (R45, R57, R58, R60): it is kept, privacy follows its knob,
and the watch moves with the event of R58; a trip with the tamper cover applies the tamper action. -/
def Obligations.SensorWordsMoveTheWatch : Prop :=
  ∀ (s : State) (st : Station) (w : Sensors),
    (s.cabinAt? st = none → s.takeWord st w = s) ∧
    (∀ c, s.cabinAt? st = some c →
      let seen (x : Watch) : Cabin := { c with lastWord := some w, privacy := w.privacyKnob, watch := x }
      let tripped (d : Option Detail) : EventRecord :=
        { kind := .entryTripped, station := c.data.lock, cabin := some c.data.number, detail := d }
      (agrees c w → (c.lastWord = none ∨ c.watch = .armed) → s.takeWord st w = withCabin s (seen .armed)) ∧
      (agrees c w → c.lastWord ≠ none → c.watch = .tripped → s.takeWord st w =
        withEvent (withCabin s (seen .armed))
          { kind := .entryRestored, station := c.data.lock, cabin := some c.data.number }) ∧
      (¬agrees c w → (c.lastWord = none ∨ c.watch = .tripped) → s.takeWord st w = withCabin s (seen .tripped)) ∧
      (¬agrees c w → c.lastWord ≠ none → c.watch = .armed →
        (c.data.tamper = .lockOut → tamperMismatch c w → ¬lockedOut c → s.takeWord st w =
          withEvent (withEvent (withCabin s { seen .tripped with lockState := .lockedOut .automatic })
            { kind := .lockOutSet, station := c.data.lock, cabin := some c.data.number,
              detail := some .automatic }) (tripped (some .lockOutApplied))) ∧
        (¬(c.data.tamper = .lockOut ∧ tamperMismatch c w ∧ ¬lockedOut c) → s.takeWord st w =
          withEvent (withCabin s (seen .tripped)) (tripped none))))

/-- WINDOW_END and OVERRIDE_END (R52, R53): the window closes, and leaves a lock-out as it is; the override period
ends and the watch is re-evaluated under the sensor mask. Neither acts before its end (log 2). -/
def Obligations.WindowsAndOverridesEnd : Prop :=
  ∀ (s : State) (n : Nat), s.power.mainOn = true →
    (s.cabin? n = none → exec (.windowEnd n) s = .next s ∧ exec (.overrideEnd n) s = .next s) ∧
    (∀ c, s.cabin? n = some c →
      (∀ t, c.windowEnd = some t → t ≤ s.timebase → exec (.windowEnd n) s = .next (withCabin s
        { c with windowEnd := none, lockState := if c.lockState = .openWindow then .secured else c.lockState })) ∧
      ((∀ t, c.windowEnd = some t → s.timebase < t) → exec (.windowEnd n) s = .next s) ∧
      (∀ t, c.overrideEnd = some t → t ≤ s.timebase → ∃ w, reevaluatedTo { c with overrideEnd := none } w ∧
        exec (.overrideEnd n) s = .next (withCabin s { c with overrideEnd := none, watch := w })) ∧
      ((∀ t, c.overrideEnd = some t → s.timebase < t) → exec (.overrideEnd n) s = .next s))

namespace Sys2Proof.Claims

/-- The holds of an account (R66, R73). -/
def accountHolds (s : State) (n : Nat) : List Hold := s.charge.holds.filter fun h => h.account == n

/-- The terminal holds of a Bar: those it created that are not detached (R73). -/
def terminalHolds (s : State) (st : Station) : List Hold :=
  s.charge.holds.filter fun h => h.station == st && !h.detached

/-- The slots in use: journal records and holds, all of them once the last number given is above 4,294,965,247
(R93). -/
def slotsInUse (s : State) : Nat :=
  (if 4294965247 < s.charge.lastNumber then 2048 else s.charge.journal.length) + s.charge.holds.length

/-- A new hold on an account, of a card, a Bar and a sale (R71, R75). -/
def holdMade (s : State) (st : Station) (e : CardEntry) (a : Account) (amount : Nat) (goods : Goods)
    (reference outlet tag : Nat) : Hold :=
  { tag := tag, card := e.data.number, account := a.number, station := st, outlet := outlet, reference := reference
    amount := amount, goods := goods, left := s.engine.profile.holdLifetime * 1000, detached := false }

/-- A granted Authorize (R72, R75): the hold, with the tag given next, and the account's held total raised. -/
def holdGranted (s : State) (p : Presentation) (e : CardEntry) (a : Account) (amount : Nat) (goods : Goods)
    (reference : Nat) (d : State × Verdict) : Prop :=
  ∃ tag, tagGiven (s.charge.holds.map Hold.tag) s.charge.lastTag tag ∧
    ∀ r outlet, s.station? p.station = some r → r.kind = .bar outlet →
      d = ({ s with charge := { s.charge with
          accounts := put Account.number { a with heldTotal := a.heldTotal + amount } s.charge.accounts
          holds := s.charge.holds ++ [holdMade s p.station e a amount goods reference outlet tag]
          lastTag := tag } },
        { reason := .granted, holdTag := some tag })

/-- The port state is Last Call. -/
def lastCallNow (s : State) : Bool :=
  match s.passage.port with
  | .lastCall _ => true
  | _ => false

/-- A refusal of a decision that changes nothing. -/
def refusal (s : State) (r : Reason) : State × Verdict := (s, verdictOf r)

/-- A pending passage is created at a gate with the confirm timeout in force (R108). -/
def passageOpened (s : State) (gate : Station) (card : Option Nat) (d : Direction) : State :=
  let q : Passage := { gate := gate, card := card, direction := d, left := s.engine.profile.confirmTimeout * 1000 }
  { s with passage := { s.passage with passages := put Passage.key q s.passage.passages } }

/-- The pending passage of a gate is removed. -/
def passageRemoved (s : State) (gate : Station) : State :=
  { s with passage := { s.passage with passages := s.passage.passages.filter fun q => q.gate != gate } }

/-- A passage commits (R106, R110, R115): a tracked card takes the presence of the direction and its stamp rises;
an untracked passage raises its count, which stops at 65535. -/
def committed (s : State) (q : Passage) : State :=
  let t := passageRemoved s q.gate
  match q.card, q.direction with
  | none, .inbound => { t with passage := { t.passage with untrackedIn := raised t.passage.untrackedIn } }
  | none, .outbound => { t with passage := { t.passage with untrackedOut := raised t.passage.untrackedOut } }
  | some n, d =>
    match t.card? n with
    | some e => withPresence t e (match d with | .outbound => .ashore | .inbound => .aboard) (stampAfter e.stamp)
    | none => t

/-- The gate, or the card, has a pending passage (R107 check 2). -/
def crossingBusy (s : State) (gate : Station) (card : Option Nat) : Prop :=
  ∃ q ∈ s.passage.passages, q.gate = gate ∨ (card ≠ none ∧ q.card = card)

/-- A card is marked Mustered at a station (R134, R135): its count moves from the station it was marked at to the
new one, and Wrong Muster Station tells a station that is not its own. -/
def mustered (s : State) (point : Station) (e : CardEntry) (m : Nat) : State :=
  let u : State := { s with
    muster := (match e.mark with
      | .unmarked => s.muster
      | .mustered old => s.muster.lowerRoll old e.data.cls).raiseRoll m e.data.cls
    cards := put CardEntry.key { e with mark := .mustered m } s.cards }
  if m = e.data.musterStation then u
  else withEvent u { kind := .wrongMusterStation, station := some point, card := some e.data.number,
                     detail := some (.musterStation e.data.musterStation) }

/-- The found-aboard claim of a muster grant (R118, R134). -/
def claimedAboard (s : State) (point : Station) (e : CardEntry) : State :=
  match e.presence with
  | .aboard => s
  | .ashore => withEvent (withPresence s e .aboard (stampAfter e.stamp))
      { kind := .foundAboard, station := some point, card := some e.data.number }
  | .unknown => withPresence s e .aboard (stampAfter e.stamp)

/-- The entry of an Answer is offered for installation (R148): the state, and the install result. -/
def installed (s : State) (presented : Option Nat) (o : CardOffer) (r : State × InstallResult) : Prop :=
  ((∀ d, readCard o ≠ some d) → r = (s, .parameter)) ∧
  (∀ d, readCard o = some d →
    ((∃ n, presented = some n ∧ n ≠ d.number) → r = (s, .parameter)) ∧
    ((∀ n, presented = some n → n = d.number) →
      (∀ e, s.card? d.number = some e →
        (fenced s d.number → r = (s, .protect)) ∧
        (¬fenced s d.number → e.data.account ≠ d.account → cardInUse s d.number → r = (s, .inUse)) ∧
        (¬fenced s d.number → (e.data.account = d.account ∨ ¬cardInUse s d.number) →
          r = (cardRewritten s e d, .installed))) ∧
      (s.card? d.number = none →
        ((∃ n, o.presence = some n ∧ readPresence n = none) → r = (s, .parameter)) ∧
        (∀ p, (o.presence = none ∧ p = .unknown ∨ ∃ n, o.presence = some n ∧ readPresence n = some p) →
          (fenced s d.number → r = (s, .protect)) ∧
          (¬fenced s d.number → 8192 ≤ s.cards.length → r = (s, .full)) ∧
          (¬fenced s d.number → s.cards.length < 8192 → r = (cardInserted s d p, .installed))))))

/-- A presentation is decided anew after an entry is installed (R20, R149). -/
def decidedAnew (s : State) (r : Referral) (v : AnswerVerdict) (t : State) : Prop :=
  ∀ e o, s.card? r.presentation.card = some e → checked s r.presentation e o →
    t = match o, v with
      | .refused reason event, _ => refusedBy s r.presentation r.number reason event
      | .referred _, _ => s.giveVerdict r.presentation r.number (verdictOf .unknown)
      | .passed, .refuse => s.giveVerdict r.presentation r.number (verdictOf .unknown)
      | .passed, .grant =>
        (decideJob s r.presentation e).1.giveVerdict r.presentation r.number (decideJob s r.presentation e).2

/-- A presentation is decided without an entry (R150). -/
def decidedWithout (s : State) (r : Referral) (v : AnswerVerdict) : State :=
  match v with
  | .refuse => s.giveVerdict r.presentation r.number (verdictOf .unknown)
  | .grant => (decideGrant s r.presentation).1.giveVerdict r.presentation r.number (decideGrant s r.presentation).2

/-- A referral has left the Referral List (R143). -/
def referralEnded (s : State) (tag : Nat) : State :=
  { s with referral := { s.referral with list := s.referral.list.filter fun r => r.tag != tag } }

/-- The Status of an Answer (R147). -/
def answeredReferral (s : State) (tag : Nat) (result : ExecResult) (install : Option InstallResult) : State :=
  withStatus s 5 0 tag result (.install install)

end Sys2Proof.Claims

/-! ## Bars -/

/-- The checks of an Authorize in the order of R74, and the hold of a grant (R72, R75): its tag is the lowest of 1 to
65535 above the last given that no hold has, going on from 1 after 65535. -/
def Obligations.AuthorizeRunsItsChecks : Prop :=
  ∀ (s : State) (p : Presentation) (e : CardEntry) (amount reference : Nat) (goods : Goods),
    p.part = .authorize amount goods reference →
    decideGrant s p = refusal s .unknown ∧
    (amount = 0 ∨ 999999 < amount → decideJob s p e = refusal s .parameter) ∧
    (1 ≤ amount → amount ≤ 999999 →
      (s.muster.state ≠ .off → decideJob s p e = refusal s .barsClosed) ∧
      (s.muster.state = .off →
        (e.data.account.bind s.account? = none → decideJob s p e = refusal s .noAccount) ∧
        (∀ a, e.data.account.bind s.account? = some a →
          (a.state ≠ .opened → decideJob s p e = refusal s .accountHeld) ∧
          (a.state = .opened →
            (e.data.cls = .junior → goods = .restricted → decideJob s p e = refusal s .age) ∧
            (¬(e.data.cls = .junior ∧ goods = .restricted) →
              (e.presence = .ashore → decideJob s p e = refusal (withEvent s
                { kind := .presenceAnomaly, station := some p.station, card := some e.data.number,
                  account := some a.number }) .presence) ∧
              (e.presence ≠ .ashore →
                (s.engine.profile.terminalHoldLimit ≤ (terminalHolds s p.station).length →
                  decideJob s p e = refusal s .terminalLimit) ∧
                ((terminalHolds s p.station).length < s.engine.profile.terminalHoldLimit →
                  (8 ≤ (accountHolds s a.number).length ∨ 256 ≤ s.charge.holds.length →
                    decideJob s p e = refusal s .holdLimit) ∧
                  ((accountHolds s a.number).length < 8 → s.charge.holds.length < 256 →
                    (2048 ≤ slotsInUse s → decideJob s p e = refusal s .journalFull) ∧
                    (slotsInUse s < 2048 →
                      (a.voyageCap < a.voyageSpent + a.heldTotal + amount → decideJob s p e = refusal s .cap) ∧
                      (a.voyageSpent + a.heldTotal + amount ≤ a.voyageCap →
                        (a.dailyCap < a.dailySpent + a.heldTotal + amount →
                          decideJob s p e = refusal s .dailyCap) ∧
                        (a.dailySpent + a.heldTotal + amount ≤ a.dailyCap → holdGranted s p e a amount goods reference
                          (decideJob s p e))))))))))))

/-- The three ends of a hold: Complete (R77), Cancel (R78), each LATE for a hold that is not there, is another
station's or is detached, and HOLD_LAPSE (R80), which acts when the lifetime has run out (log 2). -/
def Obligations.HoldsEndWithOneRecord : Prop :=
  ∀ (s : State) (st : Station) (tag amount : Nat),
    ((∀ h, s.hold? tag = some h → h.station ≠ st ∨ h.detached = true) →
      decideComplete s st tag amount = (s, .late) ∧ decideCancel s st tag = (s, .late)) ∧
    (∀ h, s.hold? tag = some h →
      (h.station = st → h.detached = false →
        (h.amount < amount → decideComplete s st tag amount = (s, .parameter)) ∧
        (amount ≤ h.amount →
          decideComplete s st tag amount = (holdEnded s h .completed amount amount, .granted)) ∧
        decideCancel s st tag = (holdEnded s h .cancelled h.amount 0, .granted)) ∧
      (s.power.mainOn = true → h.left = 0 → exec (.holdLapse tag) s =
        .next (withEvent (holdEnded s h .lapsed h.amount 0)
          { kind := .holdLapsed, station := some h.station, card := some h.card, account := some h.account,
            detail := some (.holdTag h.tag) })) ∧
      (h.left ≠ 0 → exec (.holdLapse tag) s = .next s)) ∧
    (s.hold? tag = none → exec (.holdLapse tag) s = .next s)

/-! ## Gates and muster points -/

/-- The gate decision in the order of R107 (R108), the untracked decision (R115), the Passage Report (R110, R112),
and PASSAGE_CONFIRM_TIMEOUT (R111; log 2). -/
def Obligations.GatesDecideAndCommit : Prop :=
  (∀ (s : State) (p : Presentation) (e : CardEntry) (d : Direction), p.part = .passage d →
    decideJob s p e =
      (if s.passage.port = .atSea then refusal s .notInPort
      else if (s.passage.passages.any fun q => q.gate == p.station || q.card == some e.data.number) then
        refusal s .busy
      else if s.muster.state ≠ .off ∧ d = .outbound then refusal s .muster
      else if lastCallNow s = true ∧ d = .outbound ∧ (e.data.cls = .guest ∨ e.data.cls = .junior) then
        refusal s .lastCall
      else if (d = .outbound ∧ e.presence = .ashore) ∨ (d = .inbound ∧ e.presence = .aboard) then
        refusal (withEvent s { kind := .presenceAnomaly, station := some p.station, card := some e.data.number })
          .direction
      else (passageOpened s p.station (some e.data.number) d, verdictOf .granted)) ∧
    decideGrant s p =
      (if s.engine.profile.countMode = .strict then refusal s .unknown
      else if s.passage.port = .atSea then refusal s .notInPort
      else if (s.passage.passages.any fun q => q.gate == p.station) then refusal s .busy
      else if s.muster.state ≠ .off ∧ d = .outbound then refusal s .muster
      else if lastCallNow s = true ∧ d = .outbound then refusal s .lastCall
      else (passageOpened s p.station none d, verdictOf .granted))) ∧
  (∀ (s : State) (gate : Station) (outcome : Nat),
    (outcome ≠ 1 → outcome ≠ 2 → decideReport s gate outcome = (s, .parameter)) ∧
    (∀ o, readOutcome outcome = some o → s.passageAt? gate = none → decideReport s gate outcome =
      (withEvent s { kind := .latePassage, station := some gate, detail := some (.outcome o) }, .late)) ∧
    (∀ q, s.passageAt? gate = some q →
      decideReport s gate 1 = (committed s q, .granted) ∧
      decideReport s gate 2 = (passageRemoved s gate, .granted))) ∧
  (∀ (s : State) (gate : Station), s.power.mainOn = true →
    (∀ q, s.passageAt? gate = some q → q.left = 0 →
      exec (.passageConfirmTimeout gate) s = .next (passageAbandoned s gate .abandonedTimeout)) ∧
    ((∀ q, s.passageAt? gate = some q → q.left ≠ 0) → exec (.passageConfirmTimeout gate) s = .next s))

/-- The muster point decision in the order of R133 with the found-aboard claim and the mark of R134 and R135, and the
unlisted decision (R136). -/
def Obligations.MusterPointsMarkTheCard : Prop :=
  ∀ (s : State) (p : Presentation) (m : Nat), p.part = .muster m →
    (s.muster.state = .off → decideGrant s p = refusal s .muster ∧ ∀ e, decideJob s p e = refusal s .muster) ∧
    (s.muster.state ≠ .off →
      decideGrant s p = ({ s with muster := s.muster.raiseUnlisted m }, verdictOf .granted) ∧
      (∀ e, e.mark = .mustered m → decideJob s p e = (s, verdictOf .granted)) ∧
      (∀ e, s.card? e.data.number = some e → e.mark ≠ .mustered m →
        decideJob s p e = (mustered (claimedAboard s p.station e) p.station
          (if e.presence = .aboard then e else { e with presence := .aboard, stamp := stampAfter e.stamp }) m,
          verdictOf .granted)))

/-! ## Answers and timers -/

/-- ANSWER_FRAME (R147-R151): the referral leaves, the entry is offered for installation, and the presentation is
decided anew or without an entry; a tag that names no referral is late. That a presence code out of its list is
tested at an insertion only is the model's reading (log 18). -/
def Obligations.AnswersEndTheirReferral : Prop :=
  ∀ (s : State) (tag : Nat) (v : AnswerVerdict), receives s →
    let t := up s
    (∀ r, tag ≠ 0 → t.referral.list.find? (fun x => x.tag == tag) = some r →
      let u := referralEnded t tag
      exec (.answerFrame tag v none) s = .next (answeredReferral (decidedWithout u r v) tag .ok none) ∧
      (∀ o, ∃ i : State × InstallResult, installed u (some r.presentation.card) o i ∧
        (i.2 ≠ .installed → exec (.answerFrame tag v (some o)) s =
          .next (answeredReferral (decidedWithout i.1 r v) tag .ok (some i.2))) ∧
        (i.2 = .installed → ∃ w, decidedAnew i.1 r v w ∧ exec (.answerFrame tag v (some o)) s =
          .next (answeredReferral w tag .ok (some i.2))))) ∧
    (tag = 0 ∨ t.referral.list.find? (fun x => x.tag == tag) = none →
      let late (card : Option Nat) : State :=
        withEvent t { kind := .lateAnswer, card := card, detail := some (.referralTag tag) }
      exec (.answerFrame tag v none) s = .next (answeredReferral (late none) tag .late none) ∧
      (∀ o, ∃ i : State × InstallResult, installed (late (some o.number)) none o i ∧
        exec (.answerFrame tag v (some o)) s = .next (answeredReferral i.1 tag .late (some i.2))))

/-- REFERRAL_TIMEOUT (R145), LOAD_GAP_EXPIRY (R168), DAY_BOUNDARY (R85, R192) and ALL_ABOARD_DUE (R103): each acts
when it is due and changes nothing before (log 2). A session is not abandoned while a Data frame, taken first, is
being settled (R168). -/
def Obligations.TimersActWhenDue : Prop :=
  ∀ s : State, s.power.mainOn = true →
    (∀ tag, (∀ r, tag ≠ 0 → s.referral.list.find? (fun x => x.tag == tag) = some r →
        (r.left = 0 → exec (.referralTimeout tag) s =
          .next ((referralEnded s r.tag).fallback r.presentation r.number .timeout)) ∧
        (r.left ≠ 0 → exec (.referralTimeout tag) s = .next s)) ∧
      (tag = 0 ∨ s.referral.list.find? (fun x => x.tag == tag) = none →
        exec (.referralTimeout tag) s = .next s)) ∧
    (∀ x, s.engine.session = some x → (∀ f, s.engine.state ≠ .loading f) →
      (x.gap = 0 → exec .loadGapExpiry s = .next (withEvent { s with engine := { s.engine with session := none } }
        { kind := .loadAbandoned, detail := some (.applied x.applied) })) ∧
      (x.gap ≠ 0 → exec .loadGapExpiry s = .next s)) ∧
    (s.engine.session = none ∨ (∃ f, s.engine.state = .loading f) → exec .loadGapExpiry s = .next s) ∧
    (∀ t b, s.engine.voyage.time = some t → s.engine.voyage.boundary = some b →
      (timeKey b ≤ timeKey t → exec .dayBoundary s = .next (rolledOver { s with engine := { s.engine with
        voyage := { s.engine.voyage with boundary := some (nextDay b) } } })) ∧
      (timeKey t < timeKey b → exec .dayBoundary s = .next s)) ∧
    (s.engine.voyage.time = none ∨ s.engine.voyage.boundary = none → exec .dayBoundary s = .next s) ∧
    (∀ t a, s.engine.voyage.time = some t → s.passage.port = .inPort a →
      (timeKey a ≤ timeKey t → exec .allAboardDue s = .next (inLastCall s a)) ∧
      (timeKey t < timeKey a → exec .allAboardDue s = .next s)) ∧
    (s.engine.voyage.time = none ∨ (∀ a, s.passage.port ≠ .inPort a) → exec .allAboardDue s = .next s)

namespace Sys2Proof.Claims

/-- A value from a list of names: its place in the list, numbered from 1 (R190). -/
def named {α : Type} [BEq α] (names : List α) (x : α) : List Byte := oneByte (names.idxOf x + 1)

/-- Yes is 1 and no 2 (R190). -/
def yesNo (b : Bool) : List Byte := oneByte (if b then 1 else 2)

/-- A voyage time, "unset" being seven bytes 00 (R190). -/
def voyageTime (t : Option DateTime) : List Byte := (t.map dateBytes).getD (List.replicate 7 0x00#8)

/-- A voyage time that may be absent, which is seven bytes FF (R190). -/
def timeIfAny (t : Option (Option DateTime)) : List Byte := (t.map voyageTime).getD (List.replicate 7 0xFF#8)

/-- A station: line, then address (R190). -/
def stationSent (st : Station) : List Byte := oneByte st.line.val ++ oneByte st.addr

/-- A list after the count of its items in one byte (R190). -/
def listSent {α : Type} (f : α → List Byte) (xs : List α) : List Byte := oneByte xs.length ++ xs.flatMap f

/-- A set of lock sensors as the sensor byte of R191. -/
def sensorsSent (x : Sensors) : List Byte := oneByte (sensorCode x)

/-- The code of an execution result (R189). -/
def resultSent (r : ExecResult) : List Byte :=
  oneByte ([.ok, .busy, .parameter, .protect, .inUse, .full, .notFound, .stale, .late, .order, .notOpen].idxOf r)

/-- A verdict reason, by its place in the list of R34 (R189). -/
def reasonSent (r : Reason) : List Byte :=
  named [.granted, .repeated, .foreign, .unknown, .superseded, .blocked, .expired, .notListed, .privacy, .lockedOut,
    .noCabin, .noAccount, .accountHeld, .cap, .dailyCap, .age, .presence, .barsClosed, .terminalLimit, .holdLimit,
    .journalFull, .direction, .notInPort, .lastCall, .muster, .busy, .late, .parameter, .outOfService] r

/-- A frame (R177, R189): start marker, Length, class, kind, tag, body, and the two's complement of the sum. -/
def frameSent (cls kind tag : Nat) (body : List Byte) : List Byte :=
  let summed := numBytes 2 (body.length + 4) ++ oneByte cls ++ oneByte kind ++ numBytes 2 tag ++ body
  [0xC3#8] ++ summed ++ numBytes 2 ((65536 - (summed.map fun b => b.toNat).sum % 65536) % 65536)

/-- A card entry with every field of R4, in its order (R170). -/
def cardSent (e : CardEntry) : List Byte :=
  numBytes 3 e.data.number ++ oneByte e.data.issue
    ++ named [.guest, .junior, .crew, .steward, .officer] e.data.cls ++ named [.active, .blocked] e.data.status
    ++ optBytes (numBytes 3) e.data.account ++ listSent (numBytes 2) e.data.cabins ++ listSent oneByte e.data.zones
    ++ optBytes (fun w : DateTime × DateTime => dateBytes w.1 ++ dateBytes w.2) e.data.window
    ++ oneByte e.data.musterStation ++ yesNo e.data.search ++ named [.aboard, .ashore, .unknown] e.presence
    ++ numBytes 4 e.stamp
    ++ (match e.mark with
      | .unmarked => oneByte 1
      | .mustered n => oneByte 2 ++ oneByte n)

/-- A hold with every field of R71, in its order (R170). -/
def holdSent (h : Hold) : List Byte :=
  numBytes 2 h.tag ++ numBytes 3 h.card ++ numBytes 3 h.account ++ stationSent h.station ++ oneByte h.outlet
    ++ numBytes 2 h.reference ++ numBytes 3 h.amount ++ named [.ordinary, .restricted] h.goods ++ numBytes 4 h.left
    ++ yesNo h.detached

/-- A cabin with every field of R44, in its order (R170). The holder's form byte is log 20. -/
def cabinSent (c : Cabin) (windowLeft overrideLeft : Option Nat) : List Byte :=
  numBytes 2 c.data.number ++ oneByte c.data.zone ++ optBytes stationSent c.data.lock ++ sensorsSent c.data.pattern
    ++ sensorsSent c.data.mask ++ optBytes sensorsSent c.data.openMask ++ named [.none, .lockOut] c.data.tamper
    ++ (match c.lockState with
      | .secured => oneByte 1 ++ oneByte 0
      | .openWindow => oneByte 2 ++ oneByte 0
      | .lockedOut (.officer n) => oneByte 3 ++ oneByte 1 ++ oneByte 1 ++ numBytes 3 n
      | .lockedOut .command => oneByte 3 ++ oneByte 1 ++ oneByte 2
      | .lockedOut .automatic => oneByte 3 ++ oneByte 1 ++ oneByte 3)
    ++ optBytes (numBytes 4) windowLeft ++ optBytes (numBytes 4) overrideLeft ++ optBytes sensorsSent c.lastWord
    ++ named [.armed, .tripped] c.watch ++ yesNo c.privacy
    ++ listSent (fun r : AccessRecord => numBytes 3 r.card ++ voyageTime r.time ++ named [.openDoor, .lockout] r.gesture
        ++ reasonSent r.reason) c.trail

/-- A journal record with every field of R90, in its order. -/
def recordSent (r : JournalRecord) : List Byte :=
  numBytes 4 r.number ++ named [.completed, .cancelled, .lapsed] r.kind ++ numBytes 3 r.account ++ numBytes 3 r.card
    ++ stationSent r.station ++ oneByte r.outlet ++ numBytes 2 r.reference ++ numBytes 2 r.tag ++ numBytes 3 r.amount
    ++ voyageTime r.time ++ numBytes 2 r.day

/-- The detail of an event of a kind, as the kind's rule names it (R29, R63, R86, R121, R140, R158, R168, R197, R199).
What started or escalated a muster carries a form byte (log 20). -/
def detailSent (k : EventKind) : Detail → List Byte
  | .gesture => oneByte 1
  | .command => oneByte 2
  | .automatic => oneByte 3
  | .lockOutApplied => oneByte 1
  | .missCount n => oneByte n
  | .holdTag n => numBytes 2 n
  | .dayNumber n => numBytes 2 n
  | .abandonedTimeout => oneByte 1
  | .abandonedAbsent => oneByte 2
  | .abandonedMuster => oneByte 3
  | .outcome o => named [.passed, .notPassed] o
  | .ashoreCounts g j => numBytes 2 g ++ numBytes 2 j
  | .option m => oneByte 1 ++ oneByte (if m = .alert then 2 else 1)
  | .input n => if k = .alarmInput then oneByte n else oneByte 2 ++ oneByte n
  | .unaccounted n => numBytes 2 n
  | .musterStation n => oneByte n
  | .cause c => named [.trunkDown, .listFull, .timeout, .trunkLoss] c
  | .referralTag n => numBytes 2 n
  | .applied n => numBytes 4 n
  | .passages n => oneByte n
  | .discarded n => numBytes 2 n

/-- An event record (R196): kind by its code, time, and the optional fields. -/
def eventSent (r : EventRecord) : List Byte :=
  named [.entryTripped, .entryRestored, .lockOutSet, .lockOutLifted, .stationAbsent, .stationPresent, .foreignCard,
      .supersededCard, .blockedCard, .presenceAnomaly, .holdLapsed, .passageAbandoned, .latePassage, .allAboardDue,
      .foundAboard, .wrongMusterStation, .musterStarted, .musterEscalated, .musterEnded, .alarmInput, .trunkUp,
      .trunkDown, .referralFallback, .lateAnswer, .loadAbandoned, .dayRollover, .restart, .overflow] r.kind
    ++ voyageTime r.time ++ optBytes stationSent r.station ++ optBytes (numBytes 3) r.card
    ++ optBytes (numBytes 2) r.cabin ++ optBytes (numBytes 3) r.account ++ optBytes (detailSent r.kind) r.detail

/-- A port state and its all-aboard time, absent at sea (R101, R119). -/
def portSent : PortState → List Byte × List Byte
  | .atSea => (oneByte 1, timeIfAny none)
  | .inPort t => (oneByte 2, timeIfAny (some (some t)))
  | .lastCall t => (oneByte 3, timeIfAny (some (some t)))

/-- The items of Status Read in the order of R183; the trunk state is Up. -/
def itemsSent (x : StatusItems) : List Byte :=
  oneByte 2 ++ named [.cold, .warm] x.lastRestart.kind
    ++ named [.retentionLost, .checkFailed, .powerReturned, .command] x.lastRestart.cause ++ yesNo x.clockSet
    ++ x.vesselCodes.toList.flatMap (fun c => numBytes 2 (c.getD 0))
    ++ (match x.session with
      | none => oneByte 1
      | some (table, mode) => oneByte 2 ++ named [.card, .account, .cabin] table ++ named [.merge, .purge] mode)
    ++ x.lines.flatMap (named [.stopped, .running, .settling, .test]) ++ oneByte x.gates ++ numBytes 2 x.cards
    ++ numBytes 2 x.cabins ++ numBytes 2 x.accounts ++ numBytes 2 x.holds ++ numBytes 2 x.records
    ++ numBytes 4 x.lastNumber ++ (portSent x.port).1 ++ oneByte x.passages ++ named [.off, .drill, .alert] x.muster
    ++ oneByte x.referrals ++ numBytes 2 x.events

/-- The data of a Status, as the rule of the frame answered names them (R179, R190). -/
def dataSent : StatusData → List Byte
  | .none => []
  | .items x => itemsSent x
  | .profile p => profileOfferBytes (offerOf p)
  | .echoes xs => listSent (fun x : Nat × Nat × Nat => oneByte x.1 ++ numBytes 2 x.2.1 ++ numBytes 2 x.2.2) xs
  | .totals t m a r =>
    named [.card, .account, .cabin] t ++ named [.merge, .purge] m ++ numBytes 4 a ++ numBytes 4 r
  | .card e => cardSent e
  | .account a hs =>
    numBytes 3 a.number ++ named [.opened, .suspended, .closed] a.state ++ numBytes 4 a.voyageCap
      ++ numBytes 4 a.voyageSpent ++ numBytes 4 a.dailyCap ++ numBytes 4 a.dailySpent ++ numBytes 3 a.heldTotal
      ++ listSent holdSent hs
  | .cabin c w o => cabinSent c w o
  | .stamp n => numBytes 4 n
  | .journal rs o l => listSent recordSent rs ++ numBytes 4 o ++ numBytes 4 l
  | .released n o => numBytes 2 n ++ numBytes 4 o
  | .counters c i o p n =>
    [c.guest, c.junior, c.crew, c.steward, c.officer].flatMap
        (fun k : PresenceCounts => numBytes 2 k.aboard ++ numBytes 2 k.ashore ++ numBytes 2 k.unknown)
      ++ numBytes 2 i ++ numBytes 2 o ++ (portSent p).1 ++ (portSent p).2 ++ oneByte n
  | .page ns next total => listSent (numBytes 3) ns ++ optBytes (numBytes 3) next ++ numBytes 2 total
  | .roll st a b rows m u n =>
    named [.off, .drill, .alert] st ++ timeIfAny a ++ timeIfAny b
      ++ rows.toList.flatMap (fun r : RollRow => numBytes 2 r.guestJunior ++ numBytes 2 r.crew ++ numBytes 2 r.unlisted)
      ++ numBytes 2 m ++ numBytes 3 u ++ numBytes 2 n
  | .inputs xs =>
    xs.toList.flatMap fun x => named [.disabled, .risingEdge, .fallingEdge, .levelHigh, .levelLow] x.mode
      ++ named [true, false] x.level ++ yesNo x.seen
  | .events rs held => listSent eventSent rs ++ numBytes 2 held
  | .protection p n =>
    named [true, false] p.load ++ named [true, false] p.purge ++ named [true, false] p.rangeRewrite
      ++ optBytes (fun r : Nat × Nat => numBytes 3 r.1 ++ numBytes 3 r.2) p.range ++ numBytes 2 n
  | .entries rs => listSent resultSent rs
  | .install r =>
    match r with
    | some .installed => oneByte 0
    | some .parameter => oneByte 2
    | some .protect => oneByte 3
    | some .inUse => oneByte 4
    | some .full => oneByte 5
    | none => oneByte 255

/-- The content of a Poll: its frame kind, its request number, and its bytes (R191). -/
def contentSent : PollContent → Nat × Nat × List Byte
  | .plain => (1, 0, [])
  | .pending n => (2, n, [])
  | .verdict n v => (3, n, reasonSent v.reason ++ numBytes 2 (v.holdTag.getD 0))
  | .notice x => (4, x.number.getD 0, reasonSent x.reason ++ oneByte (if x.number = none then 0 else 1))
  | .through d => (5, 0, d)
  | .test => (6, 0, [0x00#8, 0xFF#8, 0x55#8, 0xAA#8, 0x0F#8, 0xF0#8, 0x33#8, 0xCC#8,
      0x01#8, 0x02#8, 0x04#8, 0x08#8, 0x10#8, 0x20#8, 0x40#8, 0x80#8])

end Sys2Proof.Claims

/-! ## Bytes sent -/

/-- The bytes the part sends. A number stands most significant byte first (R190). A Status carries the kind and tag of
the frame it answers, and in its body the class, the reception result and, when ACCEPTED, the execution result and the
data of the frame's rule (R179, R189, R190); a Referral its tag and its body (R144, R189); a Through-up frame its station
and data (R41, R190). A Poll carries address, kind, request number, sensor byte 0, the content and the check word (R191).
The codings that R190 leaves open are the model's (log 20). -/
def Obligations.FramesAndPollsAreSentAsLaidOut : Prop :=
  (∀ (w n i : Nat), i < w → (numBytes w n)[i]? = some (BitVec.ofNat 8 (n / 256 ^ (w - 1 - i)))) ∧
  (∀ (w n : Nat), (numBytes w n).length = w) ∧
  (∀ x : Status, OutFrame.bytes (.status x) = frameSent 3 x.kind x.tag
    (oneByte x.cls ++ oneByte ([.accepted, .check, .malformed, .unknownKind].idxOf x.reception)
      ++ (match x.result with
        | some r => resultSent r ++ dataSent x.data
        | none => []))) ∧
  (∀ (tag : Nat) (p : Presentation) (cause : ReferralCause), OutFrame.bytes (.referral tag p cause) =
    frameSent 4 0 tag (stationSent p.station
      ++ oneByte (match p.part with
        | .openDoor => 1
        | .lockout => 2
        | .authorize _ _ _ => 3
        | .passage _ => 4
        | .muster _ => 5)
      ++ named [.lookupMiss, .higherIssue, .windowClockUnset] cause
      ++ numBytes 2 p.vessel ++ numBytes 3 p.card ++ oneByte p.issue
      ++ (match p.part with
        | .openDoor => oneByte 1
        | .lockout => oneByte 2
        | .authorize amount goods reference =>
          numBytes 3 amount ++ named [.ordinary, .restricted] goods ++ numBytes 2 reference
        | .passage d => named [.outbound, .inbound] d
        | .muster m => oneByte m))) ∧
  (∀ (st : Station) (data : List Byte),
    OutFrame.bytes (.throughUp st data) = frameSent 7 0 0 (stationSent st ++ data)) ∧
  (∀ x : Exchange,
    let c := contentSent x.content
    let summed := oneByte x.addr ++ oneByte c.1 ++ oneByte c.2.1 ++ oneByte 0 ++ oneByte c.2.2.length ++ c.2.2
    pollBytes x =
      summed ++ numBytes 2 ((65536 - (summed.map fun b => b.toNat).sum % 65536) % 65536))
end

