-- ==== Sys2Proof/Laws/State.lean ====
section
/-! SUPPORT. One lemma for each field of the state under each setter. -/

namespace Sys2Proof.Machine.State

@[simp] theorem timebase_setTimebase (s : State) (x : Nat) : (s.setTimebase x).timebase = x := rfl
@[simp] theorem power_setTimebase (s : State) (x : Nat) : (s.setTimebase x).power = s.power := rfl
@[simp] theorem trunk_setTimebase (s : State) (x : Nat) : (s.setTimebase x).trunk = s.trunk := rfl
@[simp] theorem engine_setTimebase (s : State) (x : Nat) : (s.setTimebase x).engine = s.engine := rfl
@[simp] theorem lines_setTimebase (s : State) (x : Nat) : (s.setTimebase x).lines = s.lines := rfl
@[simp] theorem cards_setTimebase (s : State) (x : Nat) : (s.setTimebase x).cards = s.cards := rfl
@[simp] theorem cabins_setTimebase (s : State) (x : Nat) : (s.setTimebase x).cabins = s.cabins := rfl
@[simp] theorem charge_setTimebase (s : State) (x : Nat) : (s.setTimebase x).charge = s.charge := rfl
@[simp] theorem passage_setTimebase (s : State) (x : Nat) : (s.setTimebase x).passage = s.passage := rfl
@[simp] theorem muster_setTimebase (s : State) (x : Nat) : (s.setTimebase x).muster = s.muster := rfl
@[simp] theorem referral_setTimebase (s : State) (x : Nat) : (s.setTimebase x).referral = s.referral := rfl
@[simp] theorem events_setTimebase (s : State) (x : Nat) : (s.setTimebase x).events = s.events := rfl
@[simp] theorem free_setTimebase (s : State) (x : Nat) : (s.setTimebase x).free = s.free := rfl
@[simp] theorem pending_setTimebase (s : State) (x : Nat) : (s.setTimebase x).pending = s.pending := rfl
@[simp] theorem timebase_setPower (s : State) (x : Power) : (s.setPower x).timebase = s.timebase := rfl
@[simp] theorem power_setPower (s : State) (x : Power) : (s.setPower x).power = x := rfl
@[simp] theorem trunk_setPower (s : State) (x : Power) : (s.setPower x).trunk = s.trunk := rfl
@[simp] theorem engine_setPower (s : State) (x : Power) : (s.setPower x).engine = s.engine := rfl
@[simp] theorem lines_setPower (s : State) (x : Power) : (s.setPower x).lines = s.lines := rfl
@[simp] theorem cards_setPower (s : State) (x : Power) : (s.setPower x).cards = s.cards := rfl
@[simp] theorem cabins_setPower (s : State) (x : Power) : (s.setPower x).cabins = s.cabins := rfl
@[simp] theorem charge_setPower (s : State) (x : Power) : (s.setPower x).charge = s.charge := rfl
@[simp] theorem passage_setPower (s : State) (x : Power) : (s.setPower x).passage = s.passage := rfl
@[simp] theorem muster_setPower (s : State) (x : Power) : (s.setPower x).muster = s.muster := rfl
@[simp] theorem referral_setPower (s : State) (x : Power) : (s.setPower x).referral = s.referral := rfl
@[simp] theorem events_setPower (s : State) (x : Power) : (s.setPower x).events = s.events := rfl
@[simp] theorem free_setPower (s : State) (x : Power) : (s.setPower x).free = s.free := rfl
@[simp] theorem pending_setPower (s : State) (x : Power) : (s.setPower x).pending = s.pending := rfl
@[simp] theorem timebase_setTrunk (s : State) (x : TrunkPort) : (s.setTrunk x).timebase = s.timebase := rfl
@[simp] theorem power_setTrunk (s : State) (x : TrunkPort) : (s.setTrunk x).power = s.power := rfl
@[simp] theorem trunk_setTrunk (s : State) (x : TrunkPort) : (s.setTrunk x).trunk = x := rfl
@[simp] theorem engine_setTrunk (s : State) (x : TrunkPort) : (s.setTrunk x).engine = s.engine := rfl
@[simp] theorem lines_setTrunk (s : State) (x : TrunkPort) : (s.setTrunk x).lines = s.lines := rfl
@[simp] theorem cards_setTrunk (s : State) (x : TrunkPort) : (s.setTrunk x).cards = s.cards := rfl
@[simp] theorem cabins_setTrunk (s : State) (x : TrunkPort) : (s.setTrunk x).cabins = s.cabins := rfl
@[simp] theorem charge_setTrunk (s : State) (x : TrunkPort) : (s.setTrunk x).charge = s.charge := rfl
@[simp] theorem passage_setTrunk (s : State) (x : TrunkPort) : (s.setTrunk x).passage = s.passage := rfl
@[simp] theorem muster_setTrunk (s : State) (x : TrunkPort) : (s.setTrunk x).muster = s.muster := rfl
@[simp] theorem referral_setTrunk (s : State) (x : TrunkPort) : (s.setTrunk x).referral = s.referral := rfl
@[simp] theorem events_setTrunk (s : State) (x : TrunkPort) : (s.setTrunk x).events = s.events := rfl
@[simp] theorem free_setTrunk (s : State) (x : TrunkPort) : (s.setTrunk x).free = s.free := rfl
@[simp] theorem pending_setTrunk (s : State) (x : TrunkPort) : (s.setTrunk x).pending = s.pending := rfl
@[simp] theorem timebase_setEngine (s : State) (x : CommandEngine) : (s.setEngine x).timebase = s.timebase := rfl
@[simp] theorem power_setEngine (s : State) (x : CommandEngine) : (s.setEngine x).power = s.power := rfl
@[simp] theorem trunk_setEngine (s : State) (x : CommandEngine) : (s.setEngine x).trunk = s.trunk := rfl
@[simp] theorem engine_setEngine (s : State) (x : CommandEngine) : (s.setEngine x).engine = x := rfl
@[simp] theorem lines_setEngine (s : State) (x : CommandEngine) : (s.setEngine x).lines = s.lines := rfl
@[simp] theorem cards_setEngine (s : State) (x : CommandEngine) : (s.setEngine x).cards = s.cards := rfl
@[simp] theorem cabins_setEngine (s : State) (x : CommandEngine) : (s.setEngine x).cabins = s.cabins := rfl
@[simp] theorem charge_setEngine (s : State) (x : CommandEngine) : (s.setEngine x).charge = s.charge := rfl
@[simp] theorem passage_setEngine (s : State) (x : CommandEngine) : (s.setEngine x).passage = s.passage := rfl
@[simp] theorem muster_setEngine (s : State) (x : CommandEngine) : (s.setEngine x).muster = s.muster := rfl
@[simp] theorem referral_setEngine (s : State) (x : CommandEngine) : (s.setEngine x).referral = s.referral := rfl
@[simp] theorem events_setEngine (s : State) (x : CommandEngine) : (s.setEngine x).events = s.events := rfl
@[simp] theorem free_setEngine (s : State) (x : CommandEngine) : (s.setEngine x).free = s.free := rfl
@[simp] theorem pending_setEngine (s : State) (x : CommandEngine) : (s.setEngine x).pending = s.pending := rfl
@[simp] theorem timebase_setLines (s : State) (x : Vector Line 8) : (s.setLines x).timebase = s.timebase := rfl
@[simp] theorem power_setLines (s : State) (x : Vector Line 8) : (s.setLines x).power = s.power := rfl
@[simp] theorem trunk_setLines (s : State) (x : Vector Line 8) : (s.setLines x).trunk = s.trunk := rfl
@[simp] theorem engine_setLines (s : State) (x : Vector Line 8) : (s.setLines x).engine = s.engine := rfl
@[simp] theorem lines_setLines (s : State) (x : Vector Line 8) : (s.setLines x).lines = x := rfl
@[simp] theorem cards_setLines (s : State) (x : Vector Line 8) : (s.setLines x).cards = s.cards := rfl
@[simp] theorem cabins_setLines (s : State) (x : Vector Line 8) : (s.setLines x).cabins = s.cabins := rfl
@[simp] theorem charge_setLines (s : State) (x : Vector Line 8) : (s.setLines x).charge = s.charge := rfl
@[simp] theorem passage_setLines (s : State) (x : Vector Line 8) : (s.setLines x).passage = s.passage := rfl
@[simp] theorem muster_setLines (s : State) (x : Vector Line 8) : (s.setLines x).muster = s.muster := rfl
@[simp] theorem referral_setLines (s : State) (x : Vector Line 8) : (s.setLines x).referral = s.referral := rfl
@[simp] theorem events_setLines (s : State) (x : Vector Line 8) : (s.setLines x).events = s.events := rfl
@[simp] theorem free_setLines (s : State) (x : Vector Line 8) : (s.setLines x).free = s.free := rfl
@[simp] theorem pending_setLines (s : State) (x : Vector Line 8) : (s.setLines x).pending = s.pending := rfl
@[simp] theorem timebase_setCards (s : State) (x : List CardEntry) : (s.setCards x).timebase = s.timebase := rfl
@[simp] theorem power_setCards (s : State) (x : List CardEntry) : (s.setCards x).power = s.power := rfl
@[simp] theorem trunk_setCards (s : State) (x : List CardEntry) : (s.setCards x).trunk = s.trunk := rfl
@[simp] theorem engine_setCards (s : State) (x : List CardEntry) : (s.setCards x).engine = s.engine := rfl
@[simp] theorem lines_setCards (s : State) (x : List CardEntry) : (s.setCards x).lines = s.lines := rfl
@[simp] theorem cards_setCards (s : State) (x : List CardEntry) : (s.setCards x).cards = x := rfl
@[simp] theorem cabins_setCards (s : State) (x : List CardEntry) : (s.setCards x).cabins = s.cabins := rfl
@[simp] theorem charge_setCards (s : State) (x : List CardEntry) : (s.setCards x).charge = s.charge := rfl
@[simp] theorem passage_setCards (s : State) (x : List CardEntry) : (s.setCards x).passage = s.passage := rfl
@[simp] theorem muster_setCards (s : State) (x : List CardEntry) : (s.setCards x).muster = s.muster := rfl
@[simp] theorem referral_setCards (s : State) (x : List CardEntry) : (s.setCards x).referral = s.referral := rfl
@[simp] theorem events_setCards (s : State) (x : List CardEntry) : (s.setCards x).events = s.events := rfl
@[simp] theorem free_setCards (s : State) (x : List CardEntry) : (s.setCards x).free = s.free := rfl
@[simp] theorem pending_setCards (s : State) (x : List CardEntry) : (s.setCards x).pending = s.pending := rfl
@[simp] theorem timebase_setCabins (s : State) (x : List Cabin) : (s.setCabins x).timebase = s.timebase := rfl
@[simp] theorem power_setCabins (s : State) (x : List Cabin) : (s.setCabins x).power = s.power := rfl
@[simp] theorem trunk_setCabins (s : State) (x : List Cabin) : (s.setCabins x).trunk = s.trunk := rfl
@[simp] theorem engine_setCabins (s : State) (x : List Cabin) : (s.setCabins x).engine = s.engine := rfl
@[simp] theorem lines_setCabins (s : State) (x : List Cabin) : (s.setCabins x).lines = s.lines := rfl
@[simp] theorem cards_setCabins (s : State) (x : List Cabin) : (s.setCabins x).cards = s.cards := rfl
@[simp] theorem cabins_setCabins (s : State) (x : List Cabin) : (s.setCabins x).cabins = x := rfl
@[simp] theorem charge_setCabins (s : State) (x : List Cabin) : (s.setCabins x).charge = s.charge := rfl
@[simp] theorem passage_setCabins (s : State) (x : List Cabin) : (s.setCabins x).passage = s.passage := rfl
@[simp] theorem muster_setCabins (s : State) (x : List Cabin) : (s.setCabins x).muster = s.muster := rfl
@[simp] theorem referral_setCabins (s : State) (x : List Cabin) : (s.setCabins x).referral = s.referral := rfl
@[simp] theorem events_setCabins (s : State) (x : List Cabin) : (s.setCabins x).events = s.events := rfl
@[simp] theorem free_setCabins (s : State) (x : List Cabin) : (s.setCabins x).free = s.free := rfl
@[simp] theorem pending_setCabins (s : State) (x : List Cabin) : (s.setCabins x).pending = s.pending := rfl
@[simp] theorem timebase_setCharge (s : State) (x : ChargeUnit) : (s.setCharge x).timebase = s.timebase := rfl
@[simp] theorem power_setCharge (s : State) (x : ChargeUnit) : (s.setCharge x).power = s.power := rfl
@[simp] theorem trunk_setCharge (s : State) (x : ChargeUnit) : (s.setCharge x).trunk = s.trunk := rfl
@[simp] theorem engine_setCharge (s : State) (x : ChargeUnit) : (s.setCharge x).engine = s.engine := rfl
@[simp] theorem lines_setCharge (s : State) (x : ChargeUnit) : (s.setCharge x).lines = s.lines := rfl
@[simp] theorem cards_setCharge (s : State) (x : ChargeUnit) : (s.setCharge x).cards = s.cards := rfl
@[simp] theorem cabins_setCharge (s : State) (x : ChargeUnit) : (s.setCharge x).cabins = s.cabins := rfl
@[simp] theorem charge_setCharge (s : State) (x : ChargeUnit) : (s.setCharge x).charge = x := rfl
@[simp] theorem passage_setCharge (s : State) (x : ChargeUnit) : (s.setCharge x).passage = s.passage := rfl
@[simp] theorem muster_setCharge (s : State) (x : ChargeUnit) : (s.setCharge x).muster = s.muster := rfl
@[simp] theorem referral_setCharge (s : State) (x : ChargeUnit) : (s.setCharge x).referral = s.referral := rfl
@[simp] theorem events_setCharge (s : State) (x : ChargeUnit) : (s.setCharge x).events = s.events := rfl
@[simp] theorem free_setCharge (s : State) (x : ChargeUnit) : (s.setCharge x).free = s.free := rfl
@[simp] theorem pending_setCharge (s : State) (x : ChargeUnit) : (s.setCharge x).pending = s.pending := rfl
@[simp] theorem timebase_setPassage (s : State) (x : PassageUnit) : (s.setPassage x).timebase = s.timebase := rfl
@[simp] theorem power_setPassage (s : State) (x : PassageUnit) : (s.setPassage x).power = s.power := rfl
@[simp] theorem trunk_setPassage (s : State) (x : PassageUnit) : (s.setPassage x).trunk = s.trunk := rfl
@[simp] theorem engine_setPassage (s : State) (x : PassageUnit) : (s.setPassage x).engine = s.engine := rfl
@[simp] theorem lines_setPassage (s : State) (x : PassageUnit) : (s.setPassage x).lines = s.lines := rfl
@[simp] theorem cards_setPassage (s : State) (x : PassageUnit) : (s.setPassage x).cards = s.cards := rfl
@[simp] theorem cabins_setPassage (s : State) (x : PassageUnit) : (s.setPassage x).cabins = s.cabins := rfl
@[simp] theorem charge_setPassage (s : State) (x : PassageUnit) : (s.setPassage x).charge = s.charge := rfl
@[simp] theorem passage_setPassage (s : State) (x : PassageUnit) : (s.setPassage x).passage = x := rfl
@[simp] theorem muster_setPassage (s : State) (x : PassageUnit) : (s.setPassage x).muster = s.muster := rfl
@[simp] theorem referral_setPassage (s : State) (x : PassageUnit) : (s.setPassage x).referral = s.referral := rfl
@[simp] theorem events_setPassage (s : State) (x : PassageUnit) : (s.setPassage x).events = s.events := rfl
@[simp] theorem free_setPassage (s : State) (x : PassageUnit) : (s.setPassage x).free = s.free := rfl
@[simp] theorem pending_setPassage (s : State) (x : PassageUnit) : (s.setPassage x).pending = s.pending := rfl
@[simp] theorem timebase_setMuster (s : State) (x : MusterUnit) : (s.setMuster x).timebase = s.timebase := rfl
@[simp] theorem power_setMuster (s : State) (x : MusterUnit) : (s.setMuster x).power = s.power := rfl
@[simp] theorem trunk_setMuster (s : State) (x : MusterUnit) : (s.setMuster x).trunk = s.trunk := rfl
@[simp] theorem engine_setMuster (s : State) (x : MusterUnit) : (s.setMuster x).engine = s.engine := rfl
@[simp] theorem lines_setMuster (s : State) (x : MusterUnit) : (s.setMuster x).lines = s.lines := rfl
@[simp] theorem cards_setMuster (s : State) (x : MusterUnit) : (s.setMuster x).cards = s.cards := rfl
@[simp] theorem cabins_setMuster (s : State) (x : MusterUnit) : (s.setMuster x).cabins = s.cabins := rfl
@[simp] theorem charge_setMuster (s : State) (x : MusterUnit) : (s.setMuster x).charge = s.charge := rfl
@[simp] theorem passage_setMuster (s : State) (x : MusterUnit) : (s.setMuster x).passage = s.passage := rfl
@[simp] theorem muster_setMuster (s : State) (x : MusterUnit) : (s.setMuster x).muster = x := rfl
@[simp] theorem referral_setMuster (s : State) (x : MusterUnit) : (s.setMuster x).referral = s.referral := rfl
@[simp] theorem events_setMuster (s : State) (x : MusterUnit) : (s.setMuster x).events = s.events := rfl
@[simp] theorem free_setMuster (s : State) (x : MusterUnit) : (s.setMuster x).free = s.free := rfl
@[simp] theorem pending_setMuster (s : State) (x : MusterUnit) : (s.setMuster x).pending = s.pending := rfl
@[simp] theorem timebase_setReferral (s : State) (x : ReferralUnit) : (s.setReferral x).timebase = s.timebase := rfl
@[simp] theorem power_setReferral (s : State) (x : ReferralUnit) : (s.setReferral x).power = s.power := rfl
@[simp] theorem trunk_setReferral (s : State) (x : ReferralUnit) : (s.setReferral x).trunk = s.trunk := rfl
@[simp] theorem engine_setReferral (s : State) (x : ReferralUnit) : (s.setReferral x).engine = s.engine := rfl
@[simp] theorem lines_setReferral (s : State) (x : ReferralUnit) : (s.setReferral x).lines = s.lines := rfl
@[simp] theorem cards_setReferral (s : State) (x : ReferralUnit) : (s.setReferral x).cards = s.cards := rfl
@[simp] theorem cabins_setReferral (s : State) (x : ReferralUnit) : (s.setReferral x).cabins = s.cabins := rfl
@[simp] theorem charge_setReferral (s : State) (x : ReferralUnit) : (s.setReferral x).charge = s.charge := rfl
@[simp] theorem passage_setReferral (s : State) (x : ReferralUnit) : (s.setReferral x).passage = s.passage := rfl
@[simp] theorem muster_setReferral (s : State) (x : ReferralUnit) : (s.setReferral x).muster = s.muster := rfl
@[simp] theorem referral_setReferral (s : State) (x : ReferralUnit) : (s.setReferral x).referral = x := rfl
@[simp] theorem events_setReferral (s : State) (x : ReferralUnit) : (s.setReferral x).events = s.events := rfl
@[simp] theorem free_setReferral (s : State) (x : ReferralUnit) : (s.setReferral x).free = s.free := rfl
@[simp] theorem pending_setReferral (s : State) (x : ReferralUnit) : (s.setReferral x).pending = s.pending := rfl
@[simp] theorem timebase_setEvents (s : State) (x : EventQueue) : (s.setEvents x).timebase = s.timebase := rfl
@[simp] theorem power_setEvents (s : State) (x : EventQueue) : (s.setEvents x).power = s.power := rfl
@[simp] theorem trunk_setEvents (s : State) (x : EventQueue) : (s.setEvents x).trunk = s.trunk := rfl
@[simp] theorem engine_setEvents (s : State) (x : EventQueue) : (s.setEvents x).engine = s.engine := rfl
@[simp] theorem lines_setEvents (s : State) (x : EventQueue) : (s.setEvents x).lines = s.lines := rfl
@[simp] theorem cards_setEvents (s : State) (x : EventQueue) : (s.setEvents x).cards = s.cards := rfl
@[simp] theorem cabins_setEvents (s : State) (x : EventQueue) : (s.setEvents x).cabins = s.cabins := rfl
@[simp] theorem charge_setEvents (s : State) (x : EventQueue) : (s.setEvents x).charge = s.charge := rfl
@[simp] theorem passage_setEvents (s : State) (x : EventQueue) : (s.setEvents x).passage = s.passage := rfl
@[simp] theorem muster_setEvents (s : State) (x : EventQueue) : (s.setEvents x).muster = s.muster := rfl
@[simp] theorem referral_setEvents (s : State) (x : EventQueue) : (s.setEvents x).referral = s.referral := rfl
@[simp] theorem events_setEvents (s : State) (x : EventQueue) : (s.setEvents x).events = x := rfl
@[simp] theorem free_setEvents (s : State) (x : EventQueue) : (s.setEvents x).free = s.free := rfl
@[simp] theorem pending_setEvents (s : State) (x : EventQueue) : (s.setEvents x).pending = s.pending := rfl
@[simp] theorem timebase_setFree (s : State) (x : Nat) : (s.setFree x).timebase = s.timebase := rfl
@[simp] theorem power_setFree (s : State) (x : Nat) : (s.setFree x).power = s.power := rfl
@[simp] theorem trunk_setFree (s : State) (x : Nat) : (s.setFree x).trunk = s.trunk := rfl
@[simp] theorem engine_setFree (s : State) (x : Nat) : (s.setFree x).engine = s.engine := rfl
@[simp] theorem lines_setFree (s : State) (x : Nat) : (s.setFree x).lines = s.lines := rfl
@[simp] theorem cards_setFree (s : State) (x : Nat) : (s.setFree x).cards = s.cards := rfl
@[simp] theorem cabins_setFree (s : State) (x : Nat) : (s.setFree x).cabins = s.cabins := rfl
@[simp] theorem charge_setFree (s : State) (x : Nat) : (s.setFree x).charge = s.charge := rfl
@[simp] theorem passage_setFree (s : State) (x : Nat) : (s.setFree x).passage = s.passage := rfl
@[simp] theorem muster_setFree (s : State) (x : Nat) : (s.setFree x).muster = s.muster := rfl
@[simp] theorem referral_setFree (s : State) (x : Nat) : (s.setFree x).referral = s.referral := rfl
@[simp] theorem events_setFree (s : State) (x : Nat) : (s.setFree x).events = s.events := rfl
@[simp] theorem free_setFree (s : State) (x : Nat) : (s.setFree x).free = x := rfl
@[simp] theorem pending_setFree (s : State) (x : Nat) : (s.setFree x).pending = s.pending := rfl
@[simp] theorem timebase_setPending (s : State) (x : List Instr) : (s.setPending x).timebase = s.timebase := rfl
@[simp] theorem power_setPending (s : State) (x : List Instr) : (s.setPending x).power = s.power := rfl
@[simp] theorem trunk_setPending (s : State) (x : List Instr) : (s.setPending x).trunk = s.trunk := rfl
@[simp] theorem engine_setPending (s : State) (x : List Instr) : (s.setPending x).engine = s.engine := rfl
@[simp] theorem lines_setPending (s : State) (x : List Instr) : (s.setPending x).lines = s.lines := rfl
@[simp] theorem cards_setPending (s : State) (x : List Instr) : (s.setPending x).cards = s.cards := rfl
@[simp] theorem cabins_setPending (s : State) (x : List Instr) : (s.setPending x).cabins = s.cabins := rfl
@[simp] theorem charge_setPending (s : State) (x : List Instr) : (s.setPending x).charge = s.charge := rfl
@[simp] theorem passage_setPending (s : State) (x : List Instr) : (s.setPending x).passage = s.passage := rfl
@[simp] theorem muster_setPending (s : State) (x : List Instr) : (s.setPending x).muster = s.muster := rfl
@[simp] theorem referral_setPending (s : State) (x : List Instr) : (s.setPending x).referral = s.referral := rfl
@[simp] theorem events_setPending (s : State) (x : List Instr) : (s.setPending x).events = s.events := rfl
@[simp] theorem free_setPending (s : State) (x : List Instr) : (s.setPending x).free = s.free := rfl
@[simp] theorem pending_setPending (s : State) (x : List Instr) : (s.setPending x).pending = x := rfl

end Sys2Proof.Machine.State
end

