-- ==== Sys2Proof/Laws/Ops.lean ====
section
/-! SUPPORT. Spec lemmas of the shared operations: keyed tables, tags, events, frames handed, lines and stations. -/

namespace Sys2Proof.Machine

/-! ## Keyed tables -/

section Tables
variable {α : Type} (key : α → Nat)

theorem lookup_some_key {k : Nat} {t : List α} {x : α} (h : lookup key k t = some x) : key x = k := by
  have := List.find?_some h
  simpa using this

theorem lookup_some_mem {k : Nat} {t : List α} {x : α} (h : lookup key k t = some x) : x ∈ t :=
  List.mem_of_find?_eq_some h

theorem lookup_put_self (x : α) (t : List α) : lookup key (key x) (put key x t) = some x := by
  induction t with
  | nil => simp [put, lookup]
  | cons y ys ih =>
    unfold put
    split
    · simp [lookup]
    · split
      · simp [lookup]
      · have : ¬ key y = key x := fun h => by simp_all
        simp [lookup, this]
        simpa [lookup] using ih

theorem lookup_put_other {x : α} {k : Nat} (h : k ≠ key x) (t : List α) :
    lookup key k (put key x t) = lookup key k t := by
  have hx : ¬ key x = k := fun e => h e.symm
  induction t with
  | nil => simp [put, lookup, hx]
  | cons y ys ih =>
    unfold put
    split
    · simp [lookup, hx]
    · split
      · rename_i _ e
        have hy : ¬ key y = k := fun e' => hx (by omega)
        simp [lookup, hx, hy]
      · by_cases hy : key y = k
        · simp [lookup, hy]
        · simp only [lookup, List.find?_cons]
          have : (key y == k) = false := by simpa using hy
          simp only [this]
          simpa [lookup] using ih

theorem mem_put {x z : α} {t : List α} (h : z ∈ put key x t) : z = x ∨ z ∈ t := by
  induction t with
  | nil => simp_all [put]
  | cons y ys ih =>
    unfold put at h
    split at h
    · simpa using h
    · split at h
      · simp at h; rcases h with h | h <;> simp [h]
      · simp at h
        rcases h with h | h
        · simp [h]
        · rcases ih h with h | h <;> simp [h]

theorem ascending_cons {y : α} {t : List α} (h : ascending key (y :: t) = true) :
    ascending key t = true ∧ ∀ z ∈ t, key y < key z := by
  induction t generalizing y with
  | nil => simp [ascending]
  | cons z zs ih =>
    simp only [ascending, Bool.and_eq_true, decide_eq_true_eq] at h
    obtain ⟨h1, h2⟩ := h
    refine ⟨h2, fun w hw => ?_⟩
    rcases List.mem_cons.mp hw with rfl | hw
    · exact h1
    · exact Nat.lt_trans h1 ((ih h2).2 w hw)

theorem ascending_of_cons {y : α} {t : List α} (h : ascending key t = true) (hy : ∀ z ∈ t, key y < key z) :
    ascending key (y :: t) = true := by
  cases t with
  | nil => rfl
  | cons z zs => simp [ascending, h, hy z (by simp)]

theorem ascending_put (x : α) {t : List α} (h : ascending key t = true) : ascending key (put key x t) = true := by
  induction t with
  | nil => simp [put, ascending]
  | cons y ys ih =>
    obtain ⟨h1, h2⟩ := ascending_cons key h
    unfold put
    split
    · rename_i hxy
      refine ascending_of_cons key h fun z hz => ?_
      rcases List.mem_cons.mp hz with rfl | hz
      · exact hxy
      · exact Nat.lt_trans hxy (h2 z hz)
    · split
      · rename_i e
        exact ascending_of_cons key h1 fun z hz => e ▸ h2 z hz
      · rename_i hlt hne
        refine ascending_of_cons key (ih h1) fun z hz => ?_
        rcases mem_put key hz with rfl | hz
        · omega
        · exact h2 z hz

theorem ascending_filter (p : α → Bool) {t : List α} (h : ascending key t = true) :
    ascending key (t.filter p) = true := by
  induction t with
  | nil => rfl
  | cons y ys ih =>
    obtain ⟨h1, h2⟩ := ascending_cons key h
    by_cases hp : p y = true
    · rw [List.filter_cons_of_pos hp]
      exact ascending_of_cons key (ih h1) fun z hz => h2 z (List.mem_filter.mp hz).1
    · rw [List.filter_cons_of_neg hp]
      exact ih h1

theorem ascending_erase (k : Nat) {t : List α} (h : ascending key t = true) :
    ascending key (erase key k t) = true := ascending_filter key _ h

theorem ascending_map {f : α → α} (hf : ∀ x, key (f x) = key x) {t : List α} (h : ascending key t = true) :
    ascending key (t.map f) = true := by
  induction t with
  | nil => rfl
  | cons y ys ih =>
    obtain ⟨h1, h2⟩ := ascending_cons key h
    refine ascending_of_cons key (ih h1) fun z hz => ?_
    obtain ⟨w, hw, rfl⟩ := List.mem_map.mp hz
    simpa [hf] using h2 w hw

/-- A new key makes a table longer by one; a key that is there leaves its length. -/
theorem length_put (x : α) {t : List α} (h : ascending key t = true) :
    (put key x t).length = if (lookup key (key x) t).isSome then t.length else t.length + 1 := by
  induction t with
  | nil => simp [put, lookup]
  | cons y ys ih =>
    obtain ⟨h1, h2⟩ := ascending_cons key h
    unfold put
    split
    · rename_i hxy
      have hn : lookup key (key x) (y :: ys) = none := by
        simp only [lookup, List.find?_eq_none]
        intro z hz
        rcases List.mem_cons.mp hz with rfl | hz
        · simp; omega
        · have := h2 z hz; simp; omega
      simp [hn]
    · split
      · rename_i e
        simp [lookup, e]
      · rename_i hlt hne
        have hy : ¬ key y = key x := fun e => hne e.symm
        have : lookup key (key x) (y :: ys) = lookup key (key x) ys := by simp [lookup, hy]
        rw [this, List.length_cons, ih h1]
        split <;> simp

/-- In a table every entry is the entry of its key. -/
theorem lookup_mem {t : List α} (ha : ascending key t = true) {x} (hx : x ∈ t) : lookup key (key x) t = some x := by
  induction t with
  | nil => simp at hx
  | cons y ys ih =>
    obtain ⟨h1, h2⟩ := ascending_cons key ha
    rcases List.mem_cons.mp hx with rfl | hx
    · simp [lookup]
    · have := h2 x hx
      have : ¬ key y = key x := by omega
      simp only [lookup, List.find?_cons]
      rw [show (key y == key x) = false by simpa using this]
      exact ih h1 hx

/-- What is in a table after an entry took its key's place. -/
theorem mem_put_ne {t : List α} (ha : ascending key t = true) {x y} (hy : y ∈ put key x t) : y = x ∨ (y ∈ t ∧ key y ≠ key x) := by
  have h0 := ascending_put key x ha
  have h1 := lookup_mem key h0 hy
  by_cases h : key y = key x
  · left; rw [h, lookup_put_self] at h1; exact (Option.some.inj h1).symm
  · right; rw [lookup_put_other key h] at h1; exact ⟨lookup_some_mem key h1, h⟩

/-- A key that the first entry does not have is looked up in the rest. -/
theorem lookup_cons_ne {k y} {ys : List α} (h : ¬ key y = k) : lookup key k (y :: ys) = lookup key k ys := by
  simp [lookup, h]

/-- What a test counts in a table that takes a new key. -/
theorem filter_put_new (q : α → Bool) (x : α) {t : List α} (ha : ascending key t = true) (hn : lookup key (key x) t = none) :
    ((put key x t).filter q).length = (t.filter q).length + (if q x then 1 else 0) := by
  induction t with
  | nil => simp [put, List.filter_cons]; split <;> simp
  | cons y ys ih =>
    obtain ⟨h1, h2⟩ := ascending_cons key ha
    have hxy : ¬ key y = key x := by
      intro e; simp [lookup, e] at hn
    have hn' : lookup key (key x) ys = none := by simpa [lookup, hxy] using hn
    unfold put; split
    · simp [List.filter_cons]; split <;> split <;> simp
    · rw [if_neg (fun e => hxy e.symm)]
      simp only [List.filter_cons]; split <;> simp [ih h1 hn'] ; omega

/-- What a test counts in a table in which the entry of a key is replaced. -/
theorem filter_put_old (q : α → Bool) (x e : α) {t : List α} (ha : ascending key t = true) (hn : lookup key (key x) t = some e) :
    ((put key x t).filter q).length + (if q e then 1 else 0) = (t.filter q).length + (if q x then 1 else 0) := by
  induction t with
  | nil => simp [lookup] at hn
  | cons y ys ih =>
    obtain ⟨h1, h2⟩ := ascending_cons key ha
    by_cases hy : key y = key x
    · have : y = e := by simpa [lookup, hy] using hn
      subst this
      unfold put; rw [if_neg (by omega), if_pos hy.symm]
      simp only [List.filter_cons]; split <;> split <;> simp
    · rw [lookup_cons_ne key hy] at hn
      have hk := lookup_some_key key hn
      have := h2 e (lookup_some_mem key hn)
      unfold put; rw [if_neg (by omega), if_neg (by omega)]
      have := ih h1 hn
      simp only [List.filter_cons]; split <;> simp_all <;> omega

/-- What a test counts in a table that loses the entry of a key. -/
theorem filter_erase (q : α → Bool) (e : α) {k} {t : List α} (ha : ascending key t = true) (hn : lookup key k t = some e) :
    ((erase key k t).filter q).length + (if q e then 1 else 0) = (t.filter q).length := by
  induction t with
  | nil => simp [lookup] at hn
  | cons y ys ih =>
    obtain ⟨h1, h2⟩ := ascending_cons key ha
    by_cases hy : key y = k
    · have : y = e := by simpa [lookup, hy] using hn
      subst this
      have : erase key k (y :: ys) = ys := by
        simp only [erase, List.filter_cons]
        simp [hy]
        intro a ha; have := h2 a ha; omega
      rw [this]; simp only [List.filter_cons]; split <;> simp
    · rw [lookup_cons_ne key hy] at hn
      have := ih h1 hn
      have he : erase key k (y :: ys) = y :: erase key k ys := by simp [erase, hy]
      rw [he]
      simp only [List.filter_cons]; split <;> simp_all <;> omega

end Tables

/-! ## Tags (R72, R143) -/

/-- The value tried after another: one above it, and 1 after 65535. -/
def tagAfter (last : Nat) : Nat := if last < Config.maxWord16 then last + 1 else 1

/-- The value tried after so many others have been. -/
def triedTag (last i : Nat) : Nat := (min last Config.maxWord16 + i) % Config.maxWord16 + 1

/-- The first value tried. -/
theorem triedTag_zero (last : Nat) : tagAfter last = triedTag last 0 := by
  unfold tagAfter triedTag
  rw [show Config.maxWord16 = 65535 from rfl]
  split <;> omega

/-- The values tried after the next one. -/
theorem triedTag_succ (last i : Nat) : triedTag (tagAfter last) i = triedTag last (i + 1) := by
  unfold tagAfter triedTag
  rw [show Config.maxWord16 = 65535 from rfl]
  split <;> omega

/-- One try of `nextTag`. -/
theorem nextTag_succ (held : List Nat) (n last : Nat) :
    nextTag held (n + 1) last = if tagAfter last ∈ held then nextTag held n (tagAfter last) else tagAfter last := by
  by_cases h : tagAfter last ∈ held
  · rw [if_pos h]
    show (if held.contains (tagAfter last) = true then nextTag held n (tagAfter last) else tagAfter last) = _
    rw [if_pos (by simpa using h)]
  · rw [if_neg h]
    show (if held.contains (tagAfter last) = true then nextTag held n (tagAfter last) else tagAfter last) = _
    rw [if_neg (by simpa using h)]

/-- The rule of R72 and R143 on a tag that is given: the lowest value above the last given that is not held, or,
where every one up to 65535 is held, the lowest from 1 on. -/
def TagGiven (held : List Nat) (last tag : Nat) : Prop :=
  tag ∉ held ∧ 1 ≤ tag ∧ tag ≤ Config.maxWord16 ∧
  ((last < tag ∧ ∀ k, last < k → k < tag → k ∈ held) ∨
    ((∀ k, last < k → k ≤ Config.maxWord16 → k ∈ held) ∧ ∀ k, 1 ≤ k → k < tag → k ∈ held))

/-- Either a tag is given by the rule, or every value tried is held. -/
theorem nextTag_or (held : List Nat) (n last : Nat) :
    TagGiven held last (nextTag held n last) ∨ ∀ i < n, triedTag last i ∈ held := by
  have h16 : Config.maxWord16 = 65535 := rfl
  induction n generalizing last with
  | zero => right; intro i hi; omega
  | succ n ih =>
    rw [nextTag_succ]
    by_cases h : tagAfter last ∈ held
    · rw [if_pos h]
      rcases ih (tagAfter last) with ⟨h1, h2, h3, h4⟩ | h1
      · left
        refine ⟨h1, h2, h3, ?_⟩
        generalize nextTag held n (tagAfter last) = tg at h1 h2 h3 h4 ⊢
        by_cases hl : last < Config.maxWord16
        · have e : tagAfter last = last + 1 := if_pos hl
          rw [e] at h h4
          have hk : ∀ k, last < k → k ≠ last + 1 → last + 1 < k := by omega
          rcases h4 with ⟨a, b⟩ | ⟨a, b⟩
          · refine Or.inl ⟨by omega, fun k k1 k2 => ?_⟩
            by_cases e : k = last + 1
            · exact e ▸ h
            · exact b k (hk k k1 e) k2
          · refine Or.inr ⟨fun k k1 k2 => ?_, b⟩
            by_cases e : k = last + 1
            · exact e ▸ h
            · exact a k (hk k k1 e) k2
        · have e : tagAfter last = 1 := if_neg hl
          rw [e] at h h4
          refine Or.inr ⟨fun k k1 k2 => by omega, fun k k1 k2 => ?_⟩
          by_cases e : k = 1
          · exact e ▸ h
          · rcases h4 with ⟨a, b⟩ | ⟨a, b⟩
            · exact b k (by omega) k2
            · exact b k k1 k2
      · right
        intro i hi
        cases i with
        | zero => rw [← triedTag_zero]; exact h
        | succ i => rw [← triedTag_succ]; exact h1 i (by omega)
    · rw [if_neg h]; left
      have hl : 1 ≤ tagAfter last ∧ tagAfter last ≤ Config.maxWord16 := by unfold tagAfter; split <;> omega
      refine ⟨h, hl.1, hl.2, ?_⟩
      unfold tagAfter
      split
      · exact Or.inl ⟨by omega, fun k k1 k2 => by omega⟩
      · exact Or.inr ⟨fun k k1 k2 => by omega, fun k k1 k2 => by omega⟩

/-- What `nextTag` gives, fewer tags being held than there are. -/
theorem nextTag_given (held : List Nat) (last : Nat) (h : held.length < Config.maxWord16) :
    TagGiven held last (nextTag held (held.length + 1) last) := by
  rcases nextTag_or held (held.length + 1) last with h1 | h1
  · exact h1
  · exfalso
    have h16 : Config.maxWord16 = 65535 := rfl
    have hsub : ((List.range (held.length + 1)).map (triedTag last)) ⊆ held := by
      intro x hx
      obtain ⟨i, hi, rfl⟩ := List.mem_map.mp hx
      exact h1 i (List.mem_range.mp hi)
    have hnd : ((List.range (held.length + 1)).map (triedTag last)).Nodup := by
      refine List.Nodup.map_on ?_ List.nodup_range
      intro a ha b hb he
      have := List.mem_range.mp ha
      have := List.mem_range.mp hb
      unfold triedTag at he
      rw [h16] at he h
      generalize min last 65535 = m at he
      omega
    have := (List.Nodup.subperm hnd hsub).length_le
    simp at this

/-! ## Events and frames: the one block each touches -/

@[simp] theorem State.timebase_report (s : State) (r : EventRecord) : (s.report r).timebase = s.timebase := rfl
@[simp] theorem State.power_report (s : State) (r : EventRecord) : (s.report r).power = s.power := rfl
@[simp] theorem State.trunk_report (s : State) (r : EventRecord) : (s.report r).trunk = s.trunk := rfl
@[simp] theorem State.engine_report (s : State) (r : EventRecord) : (s.report r).engine = s.engine := rfl
@[simp] theorem State.lines_report (s : State) (r : EventRecord) : (s.report r).lines = s.lines := rfl
@[simp] theorem State.cards_report (s : State) (r : EventRecord) : (s.report r).cards = s.cards := rfl
@[simp] theorem State.cabins_report (s : State) (r : EventRecord) : (s.report r).cabins = s.cabins := rfl
@[simp] theorem State.charge_report (s : State) (r : EventRecord) : (s.report r).charge = s.charge := rfl
@[simp] theorem State.passage_report (s : State) (r : EventRecord) : (s.report r).passage = s.passage := rfl
@[simp] theorem State.muster_report (s : State) (r : EventRecord) : (s.report r).muster = s.muster := rfl
@[simp] theorem State.referral_report (s : State) (r : EventRecord) : (s.report r).referral = s.referral := rfl
@[simp] theorem State.free_report (s : State) (r : EventRecord) : (s.report r).free = s.free := rfl
@[simp] theorem State.pending_report (s : State) (r : EventRecord) : (s.report r).pending = s.pending := rfl
theorem State.events_report (s : State) (r : EventRecord) :
    (s.report r).events = s.events.arrive { r with time := s.engine.voyage.time } := rfl

/-- What handing a frame does: it touches the Trunk Port alone. -/
theorem State.send_eq (s : State) (f : OutFrame) :
    s.send f = s.setTrunk
      { s.trunk with outgoing := if s.trunk.up then s.trunk.outgoing ++ [f] else s.trunk.outgoing } := by
  by_cases h : s.trunk.up = true
  · rw [State.send, if_pos h, if_pos h]
  · rw [State.send, if_neg h, if_neg h]
    rfl

/-- The queue of events never grows past its slots (R196, R197). -/
theorem EventQueue.arrive_length (q : EventQueue) (r : EventRecord) (h : q.records.length ≤ Config.maxEvents) :
    (q.arrive r).records.length ≤ Config.maxEvents := by
  have hm : Config.maxEvents = 512 := rfl
  unfold EventQueue.arrive
  split
  · split
    · simp; omega
    · split
      · split
        · simp; omega
        · exact h
      · split
        · split
          · rename_i hlast _ _ _ _ _
            have : q.records ≠ [] := by intro e; simp [e] at hlast
            simp
            have := List.length_pos_iff.mpr this
            omega
          · exact h
        · exact h
  · exact h

/-! ## Lines and stations -/

@[simp] theorem State.line_setLine_self (s : State) (l : LineNo) (x : Line) : (s.setLine l x).line l = x := by
  simp [State.line, State.setLine]

theorem State.line_setLine_other (s : State) {l m : LineNo} (h : m ≠ l) (x : Line) :
    (s.setLine l x).line m = s.line m := by
  have : l.val ≠ m.val := fun e => h (Fin.ext e.symm)
  simp [State.line, State.setLine, this]

/-- Once a station's record has been replaced, its slot holds the new one. -/
theorem State.station?_setStation_self (s : State) (l : LineNo) (r : StationRec) :
    (s.setStation l r).station? { line := l, addr := r.addr } = some r := by
  simp [State.station?, State.setStation, lookup_put_self]

/-- Replacing a station's record leaves every other station. -/
theorem State.station?_setStation_other (s : State) (l : LineNo) (r : StationRec) {st : Station}
    (h : st ≠ { line := l, addr := r.addr }) : (s.setStation l r).station? st = s.station? st := by
  unfold State.station? State.setStation
  by_cases hl : st.line = l
  · subst hl
    have ha : st.addr ≠ r.addr := fun e => h (by cases st; simp_all)
    simp [lookup_put_other _ ha]
  · rw [State.line_setLine_other _ hl]

theorem State.station?_addr {s : State} {st : Station} {r : StationRec} (h : s.station? st = some r) :
    r.addr = st.addr := lookup_some_key _ h

end Sys2Proof.Machine
end

