-- ==== Sys2Proof/Laws/Closed.lean ====
section
/-! SUPPORT. What a command can do, said once: `exec_closed` holds of every property of the state that the
primitive changes listed in `ExecClosed` keep. An invariant is proved by showing it closed. -/

namespace Sys2Proof.Machine

/-! ## What a muster's start and a restart's lapses touch -/

/-- Abandoning a list of pending passages touches the pending passages and the Event Queue. -/
theorem abandonAll_eq (ps : List Passage) (s : State) :
    ∃ l q, abandonAll ps s = (s.setPassages l).setEvents q := by
  induction ps generalizing s with
  | nil => exact ⟨s.passage.passages, s.events, rfl⟩
  | cons p ps ih =>
    obtain ⟨l, q, h⟩ := ih (s.abandonPassage p.gate .abandonedMuster)
    refine ⟨l, q, h.trans ?_⟩
    unfold State.abandonPassage; split <;> rfl

/-- The entry to a muster touches the Muster Unit, the Card Table, the pending passages and the Event Queue. -/
theorem enterMuster_eq (s : State) (m : MusterState) (d : Detail) :
    ∃ x k l q, s.enterMuster m d = (((s.setMuster x).setCards k).setPassages l).setEvents q := by
  obtain ⟨l, q, h⟩ := abandonAll_eq (s.passage.passages.filter fun p => p.direction == .outbound)
    (((s.setMuster { s.muster with
        state := m, startTime := some s.engine.voyage.time
        alertTime := if m = .alert then some s.engine.voyage.time else none
        roll := Vector.replicate 32 RollRow.zero }).setCards
      (s.cards.map fun e => { e with mark := .unmarked })).report { kind := .musterStarted, detail := some d })
  exact ⟨_, _, l, q, h⟩

/-- Lapsing a list of holds touches the Charge Unit. -/
theorem lapseAll_eq (hs : List Hold) (s : State) : ∃ c, lapseAll hs s = s.setCharge c := by
  induction hs generalizing s with
  | nil => exact ⟨s.charge, rfl⟩
  | cons x xs ih =>
    obtain ⟨c, h⟩ := ih (s.endHold x .lapsed x.amount 0)
    exact ⟨c, h⟩

/-! ## The primitive changes -/

/-- A property that every primitive change of the job units and the tables keeps, each under the conditions in
which they make it. A change that a property has nothing to do with is proved by the default of its field. -/
structure JobClosed (P : State → Prop) : Prop where
  report : ∀ {s} (r : EventRecord), P s → P (s.report r) := by exact fun _ h => h
  musterKept : ∀ {s} (x : MusterUnit), x.roll = s.muster.roll → (s.muster.state = .off → x.state = .off) →
    P s → P (s.setMuster x) := by exact fun _ _ _ h => h
  enterMuster : ∀ {s} (m : MusterState) (d : Detail), s.muster.state = .off → m ≠ .off → P s →
    P (s.enterMuster m d) := by
      intro s m d _ _ h; obtain ⟨_, _, _, _, e⟩ := Machine.enterMuster_eq s m d; rw [e]; exact h
  unlisted : ∀ {s} (n : Nat), P s → P (s.setMuster (s.muster.raiseUnlisted n)) := by exact fun _ h => h
  mark : ∀ {s} (e : CardEntry) (n : Nat), s.card? e.data.number = some e → e.presence = .aboard → P s →
    P (s.setMark e n) := by exact fun _ _ _ _ h => h
  offerAccount : ∀ {s} (o : AccountOffer), P s → P (Machine.offerAccount s o).1 := by
    intro s o h; unfold Machine.offerAccount; dsimp only; (repeat' split) <;> exact h
  purgeAccount : ∀ {s} (n : Nat), P s → P (Machine.purgeAccount s n).1 := by
    intro s n h; unfold Machine.purgeAccount; (repeat' split) <;> exact h
  writeAccount : ∀ {s} (n : Nat) (a b c : Option Nat), P s → P (Machine.writeAccount s n a b c).1 := by
    intro s n a b c h; unfold Machine.writeAccount; dsimp only; (repeat' split) <;> exact h
  authorize : ∀ {s} (st : Station) (e : CardEntry) (a : Account) (amount : Nat) (g : Goods) (r : Nat),
    inRange 1 Config.maxAmount amount = true → s.account? a.number = some a → P s →
    P (authorizeOn s st e a amount g r).1 := by
      intro s st e a am g r _ _ h; unfold authorizeOn refusedWith; (repeat' split) <;> exact h
  endHold : ∀ {s} (h : Hold) (k : JournalKind) (amount charged : Nat), h ∈ s.charge.holds →
    charged ≤ h.amount → P s → P (s.endHold h k amount charged) := by exact fun _ _ _ _ _ _ h => h
  setPresence : ∀ {s} (e : CardEntry) (p : Presence) (n : Nat), s.card? e.data.number = some e →
    (s.muster.state ≠ .off → e.mark ≠ .unmarked → p = .aboard) → P s → P (s.setPresence e p n) := by
      intro s e p n _ _ h; unfold State.setPresence; dsimp only; split <;> exact h
  commitPassage : ∀ {s} (p : Passage), p ∈ s.passage.passages → P s → P (s.commitPassage p) := by
    intro s p _ h
    unfold State.commitPassage State.countUntracked State.commitPresence State.setPresence; dsimp only
    (repeat' split) <;> exact h
  port : ∀ {s} (x : PassageUnit), x.counters = s.passage.counters → x.passages = s.passage.passages → P s →
    P (s.setPassage x) := by exact fun _ _ _ h => h
  openPassage : ∀ {s} (gate : Station) (c : Option Nat) (d : Direction),
    (s.muster.state ≠ .off → d = .inbound) →
    (∀ q ∈ s.passage.passages, q.gate ≠ gate ∧ (c = none ∨ q.card ≠ c)) →
    (∀ n, c = some n → (s.card? n).isSome) → P s → P (s.openPassage gate c d) := by
      exact fun _ _ _ _ _ _ h => h
  dropPassages : ∀ {s} (ps : List Passage), ps.Sublist s.passage.passages → P s → P (s.setPassages ps) := by
    exact fun _ _ h => h
  insertCard : ∀ {s} (d : CardData) (p : Presence), s.card? d.number = none → s.cards.length < Config.maxCards →
    P s → P (s.insertCard d p) := by exact fun _ _ _ _ h => h
  rewriteCard : ∀ {s} (e : CardEntry) (d : CardData), s.card? d.number = some e → P s → P (s.rewriteCard e d) := by
    intro s e d _ h; unfold State.rewriteCard State.moveRoll; dsimp only; (repeat' split) <;> exact h
  removeCard : ∀ {s} (e : CardEntry), s.card? e.data.number = some e →
    (s.muster.state ≠ .off → e.mark = .unmarked) → (∀ p ∈ s.passage.passages, p.card ≠ some e.data.number) →
    P s → P (s.removeCard e) := by exact fun _ _ _ _ h => h
  setCabin : ∀ {s} (c c' : Cabin), c ∈ s.cabins → c'.data.number = c.data.number → c'.data.lock = c.data.lock →
    P s → P (s.setCabin c') := by exact fun _ _ _ _ _ h => h
  offerCabin : ∀ {s} (o : CabinOffer), P s → P (Machine.offerCabin s o).1 := by
    intro s o h; unfold Machine.offerCabin; (repeat' split) <;> exact h
  purgeCabin : ∀ {s} (n : Nat), P s → P (Machine.purgeCabin s n).1 := by
    intro s n h; unfold Machine.purgeCabin; (repeat' split) <;> exact h

/-- A property that every primitive change of the commands keeps, each under the conditions in which the
commands make it. -/
structure ExecClosed (P : State → Prop) : Prop extends JobClosed P where
  power : ∀ {s} (x : Power), P s → P (s.setPower x) := by exact fun _ h => h
  timebase : ∀ {s} (x : Nat), P s → P (s.setTimebase x) := by exact fun _ h => h
  free : ∀ {s} (x : Nat), P s → P (s.setFree x) := by exact fun _ h => h
  trunk : ∀ {s} (x : TrunkPort), P s → P (s.setTrunk x) := by exact fun _ h => h
  lines : ∀ {s} (x : Vector Line 8), P s → P (s.setLines x) := by exact fun _ h => h
  referral : ∀ {s} (x : ReferralUnit), P s → P (s.setReferral x) := by exact fun _ h => h
  events : ∀ {s} (x : EventQueue), x.records.length ≤ s.events.records.length → P s → P (s.setEvents x) := by
    exact fun _ _ h => h
  engine : ∀ {s} (x : CommandEngine), x.profile = s.engine.profile → P s → P (s.setEngine x) := by
    exact fun _ _ h => h
  profile : ∀ {s} (o : ProfileOffer) (p : Profile) (v : VoyageClock), readProfile o = some p → P s →
    P (s.setEngine { s.engine with profile := p, voyage := v }) := by exact fun _ _ _ _ h => h
  clearDaily : ∀ {s}, P s → P (s.setCharge { s.charge with
    accounts := s.charge.accounts.map fun a => { a with dailySpent := 0 } }) := by exact fun h => h
  lapseAll : ∀ {s}, P s → P (lapseAll s.charge.holds s) := by
    intro s h; obtain ⟨_, e⟩ := Machine.lapseAll_eq s.charge.holds s; rw [e]; exact h
  detach : ∀ {s} (st : Station), P s → P (s.detachHolds st) := by exact fun _ h => h
  release : ∀ {s} (n : Nat), P s → P (s.setCharge { s.charge with
    journal := s.charge.journal.filter fun r => decide (n < r.number) }) := by exact fun _ h => h
  cabinsAfterWarm : ∀ {s}, P s → P (s.setCabins (s.cabins.map Cabin.afterWarm)) := by exact fun h => h
  cold : ∀ {s} (c : RestartCause) (l : Levels), P s → P (s.coldStart c l)

/-! ## What lookups give -/

theorem lookup_number {n : Nat} {t : List CardEntry} {e : CardEntry} (h : lookup CardEntry.key n t = some e) :
    e.data.number = n := lookup_some_key CardEntry.key h

theorem State.card?_number {s : State} {n : Nat} {e : CardEntry} (h : s.card? n = some e) : e.data.number = n :=
  lookup_number h

theorem State.account?_number {s : State} {n : Nat} {a : Account} (h : s.account? n = some a) : a.number = n :=
  lookup_some_key Account.number h

theorem State.hold?_mem {s : State} {t : Nat} {x : Hold} (h : s.hold? t = some x) : x ∈ s.charge.holds :=
  List.mem_of_find?_eq_some h

theorem State.holdFor?_mem {s : State} {st : Station} {t : Nat} {x : Hold} (h : s.holdFor? st t = some x) :
    x ∈ s.charge.holds := by
  unfold State.holdFor? at h
  split at h
  · split at h
    · cases h; exact State.hold?_mem (by assumption)
    · cases h
  · cases h

theorem State.cabinAt?_mem {s : State} {st : Station} {c : Cabin} (h : s.cabinAt? st = some c) : c ∈ s.cabins :=
  List.mem_of_find?_eq_some h

@[simp] theorem Cabin.data_reevaluate (c : Cabin) : c.reevaluate.data = c.data := by
  unfold Cabin.reevaluate; split <;> rfl

theorem readMusterOption_ne {n : Nat} {m : MusterState} (h : readMusterOption n = some m) : m ≠ .off := by
  unfold readMusterOption at h; split at h <;> cases h <;> decide

theorem MusterUnit.state_modifyRow (m : MusterUnit) (n : Nat) (f : RollRow → RollRow) :
    (m.modifyRow n f).state = m.state := by
  unfold MusterUnit.modifyRow; split <;> rfl

@[simp] theorem MusterUnit.state_raiseRoll (m : MusterUnit) (n : Nat) (c : HolderClass) :
    (m.raiseRoll n c).state = m.state := m.state_modifyRow _ _

@[simp] theorem MusterUnit.state_lowerRoll (m : MusterUnit) (n : Nat) (c : HolderClass) :
    (m.lowerRoll n c).state = m.state := m.state_modifyRow _ _

@[simp] theorem MusterUnit.state_raiseUnlisted (m : MusterUnit) (n : Nat) :
    (m.raiseUnlisted n).state = m.state := m.state_modifyRow _ _

/-- A mark moves the roll and leaves the muster state. -/
theorem State.muster_state_setMark (s : State) (e : CardEntry) (n : Nat) :
    (s.setMark e n).muster.state = s.muster.state := by
  unfold State.setMark; cases e.mark <;> simp

/-- A change of presence touches the Card Table and the presence counters. -/
theorem State.setPresence_eq (s : State) (e : CardEntry) (p : Presence) (n : Nat) :
    ∃ c, s.setPresence e p n =
      (s.setCards (put CardEntry.key { e with presence := p, stamp := n } s.cards)).setCounters c := by
  unfold State.setPresence; dsimp only; split
  · exact ⟨s.passage.counters, rfl⟩
  · exact ⟨_, rfl⟩

/-- A commit removes the pending passage of its gate and leaves the muster. -/
theorem State.commitPassage_frame (s : State) (p : Passage) :
    (s.commitPassage p).passage.passages = (s.passage.passages.filter fun q => q.gate != p.gate) ∧
      (s.commitPassage p).muster = s.muster := by
  unfold State.commitPassage State.countUntracked State.commitPresence
  dsimp only
  (repeat' split) <;> first | exact ⟨rfl, rfl⟩ | (obtain ⟨c, h⟩ := State.setPresence_eq (s.closePassage p.gate) _ _ _; rw [h]; exact ⟨rfl, rfl⟩)

namespace JobClosed

variable {P : State → Prop} (hP : JobClosed P)
include hP

/-! ## Passages and presence -/

theorem closePassage {s : State} (g : Station) (h : P s) : P (s.closePassage g) :=
  hP.dropPassages _ List.filter_sublist h

theorem abandonPassage {s : State} (g : Station) (d : Detail) (h : P s) : P (s.abandonPassage g d) := by
  unfold State.abandonPassage; split
  · exact h
  · exact hP.report _ (hP.closePassage _ h)

theorem commitPresence {s : State} (e : CardEntry) (p : Presence) (he : s.card? e.data.number = some e)
    (hm : s.muster.state ≠ .off → e.mark ≠ .unmarked → p = .aboard) (h : P s) : P (s.commitPresence e p) :=
  hP.setPresence _ _ _ he hm h

theorem decideReport {s : State} (g : Station) (o : Nat) (h : P s) : P (decideReport s g o).1 := by
  unfold Machine.decideReport; split
  · exact h
  · split
    · exact hP.report _ h
    · rename_i hp
      split
      · exact hP.commitPassage _ (List.mem_of_find?_eq_some hp) h
      · exact hP.closePassage _ h

theorem decidePassage {s : State} (g : Station) (e : CardEntry) (d : Direction)
    (he : s.card? e.data.number = some e) (h : P s) : P (decidePassage s g e d).1 := by
  unfold Machine.decidePassage
  split; · exact h
  split; · exact h
  split; · exact h
  split; · exact h
  split; · exact h
  split
  · exact hP.report _ h
  · rename_i hb h1 h2 _ _
    refine hP.openPassage _ _ _ (fun hm => ?_) (fun q hq => ?_) (fun n hn => ?_) h
    · cases d
      · cases hs : s.muster.state <;> simp_all
      · rfl
    · simp only [State.passageAt?, State.cardPending, Bool.or_eq_true, not_or, Bool.not_eq_true,
        Option.isSome_eq_false_iff, Option.isNone_iff_eq_none, List.find?_eq_none, List.any_eq_false] at hb
      exact ⟨by simpa using hb.1 q hq, Or.inr (by simpa using hb.2 q hq)⟩
    · cases hn; rw [he]; rfl

theorem decideUntracked {s : State} (g : Station) (d : Direction) (h : P s) : P (decideUntracked s g d).1 := by
  unfold Machine.decideUntracked
  split; · exact h
  split; · exact h
  split; · exact h
  split; · exact h
  split; · exact h
  rename_i hb h1 _
  refine hP.openPassage _ _ _ (fun hm => ?_) (fun q hq => ?_) (fun _ hn => by cases hn) h
  · cases d
    · simp_all
    · rfl
  · simp only [State.passageAt?, Bool.not_eq_true, Option.isSome_eq_false_iff, Option.isNone_iff_eq_none,
      List.find?_eq_none] at hb
    exact ⟨by simpa using hb q hq, Or.inl rfl⟩

/-! ## Muster -/

theorem modifyInput {s : State} (i : Fin 4) (f : AlarmInput → AlarmInput) (h : P s) : P (s.modifyInput i f) :=
  hP.musterKept _ rfl id h

theorem escalateMuster {s : State} (d : Detail) (hm : s.muster.state = .drill) (h : P s) :
    P (s.escalateMuster d) :=
  hP.report _ (hP.musterKept _ rfl (fun e => by rw [hm] at e; cases e) h)

theorem endMuster {s : State} (h : P s) : P s.endMuster :=
  hP.report _ (hP.musterKept _ rfl (fun _ => rfl) h)

theorem alarmCondition {s : State} (i : Fin 4) (h : P s) : P (s.alarmCondition i) := by
  have h1 := hP.modifyInput i (fun x => { x with seen := true }) h
  unfold State.alarmCondition
  dsimp only
  split
  · exact h1
  · have h2 := hP.report { kind := .alarmInput, detail := some (.input (inputNumber i)) } h1
    split
    · rename_i hm; exact hP.enterMuster _ _ hm (by decide) h2
    · rename_i hm; exact hP.escalateMuster _ hm h2
    · exact h2

theorem alarmIfHeld {s : State} (i : Fin 4) (h : P s) : P (s.alarmIfHeld i) := by
  unfold State.alarmIfHeld; split
  · exact hP.alarmCondition _ h
  · exact h

theorem alarmChange {s : State} (i : Fin 4) (b : Bool) (h : P s) : P (s.alarmChange i b) := by
  unfold State.alarmChange; split
  · exact h
  · dsimp only
    split
    · exact hP.alarmCondition _ (hP.modifyInput _ _ h)
    · exact hP.modifyInput _ _ h

theorem markMustered {s : State} (st : Station) (e : CardEntry) (n : Nat) (he : s.card? e.data.number = some e)
    (ha : e.presence = .aboard) (h : P s) : P (s.markMustered st e n) := by
  unfold State.markMustered
  dsimp only
  split
  · exact hP.mark _ _ he ha h
  · exact hP.report _ (hP.mark _ _ he ha h)

theorem decideMuster {s : State} (st : Station) (e : CardEntry) (n : Nat) (he : s.card? e.data.number = some e)
    (h : P s) : P (decideMuster s st e n).1 := by
  unfold Machine.decideMuster
  split; · exact h
  split; · exact h
  dsimp only
  have h1 : P (s.foundAboard e) := by
    unfold State.foundAboard; split
    · exact h
    · exact hP.commitPresence _ _ he (fun _ _ => rfl) h
  have h2 : P (if e.presence = .ashore then
      (s.foundAboard e).report { kind := .foundAboard, station := some st, card := some e.data.number }
      else s.foundAboard e) := by
    split
    · exact hP.report _ h1
    · exact h1
  have h3 : ∀ e', (s.foundAboard e).card? e.data.number = some e' → e'.presence = .aboard := by
    intro e' h'
    unfold State.foundAboard at h'
    split at h'
    · rw [he] at h'; cases h'; assumption
    · have hc : (s.commitPresence e .aboard).cards = (put CardEntry.key
          { e with presence := .aboard, stamp := nextStamp e.stamp } s.cards) := by
        unfold State.commitPresence State.setPresence; dsimp only; split <;> rfl
      unfold State.card? at h'
      rw [hc] at h'
      have := lookup_put_self CardEntry.key { e with presence := .aboard, stamp := nextStamp e.stamp } s.cards
      rw [show CardEntry.key { e with presence := .aboard, stamp := nextStamp e.stamp } = e.data.number from rfl] at this
      rw [this] at h'; cases h'; rfl
  split
  · rename_i he'
    refine hP.markMustered _ _ _ (by rw [State.card?, lookup_number he']; exact he') (h3 _ ?_) h2
    split at he'
    · exact he'
    · exact he'
  · exact h2

theorem decideUnlisted {s : State} (n : Nat) (h : P s) : P (decideUnlisted s n).1 := by
  unfold Machine.decideUnlisted; split
  · exact h
  · exact hP.unlisted _ h

/-! ## Charges -/

theorem decideAuthorize {s : State} (st : Station) (e : CardEntry) (a : Nat) (g : Goods) (r : Nat) (h : P s) :
    P (decideAuthorize s st e a g r).1 := by
  unfold Machine.decideAuthorize
  split; · exact h
  rename_i ha
  split; · exact h
  split; · exact h
  split; · exact h
  rename_i hacc
  exact hP.authorize _ _ _ _ _ _ (by simpa using ha) (by rw [State.account?_number hacc]; exact hacc) h

theorem decideComplete {s : State} (st : Station) (t a : Nat) (h : P s) : P (decideComplete s st t a).1 := by
  unfold Machine.decideComplete; split
  · exact h
  · rename_i x hx
    split
    · exact h
    · rename_i ha
      exact hP.endHold _ _ _ _ (State.holdFor?_mem hx) (by omega) h

theorem decideCancel {s : State} (st : Station) (t : Nat) (h : P s) : P (decideCancel s st t).1 := by
  unfold Machine.decideCancel; split
  · exact h
  · rename_i x hx
    exact hP.endHold _ _ _ _ (State.holdFor?_mem hx) (by omega) h

theorem lapseHold {s : State} (x : Hold) (hx : x ∈ s.charge.holds) (h : P s) : P (s.lapseHold x) :=
  hP.report _ (hP.endHold _ _ _ _ hx (by omega) h)

theorem enterLastCall {s : State} (h : P s) : P s.enterLastCall := by
  unfold State.enterLastCall; split
  · exact hP.report _ (hP.port _ rfl rfl h)
  · exact h

/-! ## Cabins -/

/-- A cabin that has taken another lock state, timers, word, watch or trail. -/
theorem keepCabin {s : State} {c : Cabin} (c' : Cabin) (hc : c ∈ s.cabins) (hd : c'.data = c.data) (h : P s) :
    P (s.setCabin c') := hP.setCabin c c' hc (by rw [hd]) (by rw [hd]) h

theorem tripWatch {s : State} {c : Cabin} (c' : Cabin) (w : Sensors) (hc : c ∈ s.cabins) (hd : c'.data = c.data)
    (h : P s) : P (s.tripWatch c' w) := by
  unfold State.tripWatch; split
  · exact hP.report _ (hP.report _ (hP.keepCabin _ hc hd h))
  · exact hP.report _ (hP.keepCabin _ hc hd h)

theorem takeWord {s : State} (st : Station) (w : Sensors) (h : P s) : P (s.takeWord st w) := by
  unfold State.takeWord; split
  · rename_i hc
    have hc := State.cabinAt?_mem hc
    unfold State.takeWordFor
    dsimp only
    split
    · exact hP.keepCabin _ hc rfl h
    · split
      · exact hP.tripWatch _ _ hc rfl h
      · split
        · exact hP.report _ (hP.keepCabin _ hc rfl h)
        · exact hP.keepCabin _ hc rfl h
  · exact h

theorem grantCabin {s : State} {c : Cabin} (hc : c ∈ s.cabins) (h : P s) : P (s.grantCabin c) :=
  hP.keepCabin _ hc (by rw [Cabin.data_reevaluate]) h

theorem decideOpen {s : State} (st : Station) (e : CardEntry) (h : P s) : P (decideOpen s st e).1 := by
  unfold Machine.decideOpen
  split; · exact h
  rename_i hc
  have hc := State.cabinAt?_mem hc
  split; · exact hP.grantCabin hc h
  split; · exact hP.grantCabin hc h
  split; · exact h
  split; · exact h
  split; · exact h
  dsimp only
  split
  · exact hP.report _ (hP.grantCabin hc h)
  · exact hP.grantCabin hc h

theorem decideLockout {s : State} (st : Station) (e : CardEntry) (h : P s) : P (decideLockout s st e).1 := by
  unfold Machine.decideLockout
  split; · exact h
  rename_i hc
  have hc := State.cabinAt?_mem hc
  split
  · split
    · exact hP.report _ (hP.keepCabin _ hc rfl h)
    · exact hP.report _ (hP.keepCabin _ hc rfl h)
  · split <;> exact h

theorem decideReferredOpen {s : State} (st : Station) (h : P s) : P (decideReferredOpen s st).1 := by
  unfold Machine.decideReferredOpen; split
  · exact h
  · rename_i hc
    split
    · exact h
    · exact hP.grantCabin (State.cabinAt?_mem hc) h

theorem recordTrail {s : State} (st : Station) (n : Nat) (g : Gesture) (r : Reason) (h : P s) :
    P (s.recordTrail st n g r) := by
  unfold State.recordTrail; split
  · exact h
  · rename_i hc
    exact hP.keepCabin _ (State.cabinAt?_mem hc) rfl h

theorem modifyCabin {s : State} (n : Nat) (f : Cabin → Cabin)
    (hf : ∀ c, (f c).data.number = c.data.number ∧ (f c).data.lock = c.data.lock) (h : P s) :
    P (s.modifyCabin n f) := by
  unfold State.modifyCabin; split
  · rename_i c hc
    exact hP.setCabin c _ (lookup_some_mem _ hc) (hf c).1 (hf c).2 h
  · exact h

theorem writeLockOut {s : State} {c : Cabin} (b : Bool) (hc : c ∈ s.cabins) (h : P s) : P (s.writeLockOut c b) := by
  unfold State.writeLockOut; split
  · split
    · exact hP.keepCabin _ hc rfl h
    · exact hP.report _ (hP.keepCabin _ hc rfl h)
  · split
    · exact hP.report _ (hP.keepCabin _ hc rfl h)
    · exact h

theorem writeCabin {s : State} (n : Nat) (l : Option Nat) (w : Option (Nat × Nat)) (t : Option Nat) (h : P s) :
    P (writeCabin s n l w t).1 := by
  have h2 : ∀ (x : Option (Sensors × Sensors)) (t : State), P t → P (match x with
      | some (p, m) => t.modifyCabin n fun c => c.writeWatch p m
      | none => t) := by
    intro x t ht
    cases x
    · exact ht
    · exact hP.modifyCabin _ _ (fun c => by unfold Cabin.writeWatch; rw [Cabin.data_reevaluate]; exact ⟨rfl, rfl⟩) ht
  have h3 : ∀ (x : Option TamperAction) (t : State), P t → P (match x with
      | some a => t.modifyCabin n fun c => c.writeTamper a
      | none => t) := by
    intro x t ht
    cases x
    · exact ht
    · exact hP.modifyCabin _ _ (fun _ => ⟨rfl, rfl⟩) ht
  unfold Machine.writeCabin
  split
  · split
    · exact h
    · split
      · exact h
      · rename_i hc
        dsimp only
        refine h3 _ _ (h2 _ _ ?_)
        split
        · exact hP.writeLockOut _ (lookup_some_mem _ hc) h
        · exact h
  · exact h

theorem takeLockWord {s : State} (st : Station) (k : StationKind) (w : Sensors) (h : P s) :
    P (s.takeLockWord st k w) := by
  unfold State.takeLockWord; split
  · exact hP.takeWord _ _ h
  · exact h

/-! ## Cards and entries -/

theorem applyCard {s : State} (d : CardData) (p : Option Nat) (h : P s) : P (s.applyCard d p).1 := by
  unfold State.applyCard; split
  · rename_i e he
    split; · exact h
    split; · exact h
    exact hP.rewriteCard _ _ he h
  · rename_i he
    split; · exact h
    split; · exact h
    split; · exact h
    exact hP.insertCard _ _ he (by omega) h

theorem offerCard {s : State} (o : CardOffer) (h : P s) : P (offerCard s o).1 := by
  unfold Machine.offerCard; split
  · exact h
  · exact hP.applyCard _ _ h

theorem purgeCard {s : State} (n : Nat) (h : P s) : P (purgeCard s n).1 := by
  unfold Machine.purgeCard
  split; · exact h
  split; · exact h
  split; · exact h
  rename_i e he
  split; · exact h
  rename_i hu
  have hk : e.data.number = n := lookup_number he
  simp only [State.removalInUse, State.cardPending, Bool.or_eq_true, not_or, Bool.and_eq_true, bne_iff_ne, ne_eq,
    not_and, List.any_eq_true, beq_iff_eq, not_exists] at hu
  exact hP.removeCard _ (hk ▸ he) (fun hm => Classical.not_not.mp (hu.2 hm)) hu.1.2 h

theorem installCard {s : State} (n : Option Nat) (o : Option CardOffer) (h : P s) : P (installCard s n o).1 := by
  unfold Machine.installCard
  split; · exact h
  split; · exact h
  split; · exact h
  exact hP.applyCard _ _ h

theorem setCardPresence {s : State} (c p n : Nat) (h : P s) : P (setCardPresence s c p n).1 := by
  unfold Machine.setCardPresence
  split; · exact h
  split; · exact h
  split; · exact h
  rename_i e he
  have hk : e.data.number = c := lookup_number he
  split; · exact h
  split; · exact h
  rename_i hu
  exact hP.setPresence _ _ _ (hk ▸ he) (fun hm hk => Classical.not_not.mp fun hp => hu ⟨hm, hk, hp⟩) h

theorem offerEntry {s : State} (e : DataEntry) (h : P s) : P (offerEntry s e).1 := by
  cases e with
  | cardMerge o => exact hP.offerCard o h
  | cardPurge n => exact hP.purgeCard n h
  | accountMerge o => exact hP.offerAccount o h
  | accountPurge n => exact hP.purgeAccount n h
  | cabinMerge o => exact hP.offerCabin o h
  | cabinPurge n => exact hP.purgeCabin n h

theorem settleEntry {s : State} (m : LoadMode) (e : DataEntry) (h : P s) : P (settleEntry s m e).1 := by
  unfold Machine.settleEntry; split
  · exact hP.offerEntry _ h
  · exact h

/-! ## Decisions -/

theorem decideJob {s : State} (p : Presentation) (e : CardEntry) (he : s.card? e.data.number = some e) (h : P s) :
    P (decideJob s p e).1 := by
  unfold Machine.decideJob; split
  · exact hP.decideOpen _ _ h
  · exact hP.decideLockout _ _ h
  · exact hP.decideAuthorize _ _ _ _ _ h
  · exact hP.decidePassage _ _ _ he h
  · exact hP.decideMuster _ _ _ he h

theorem decideGrant {s : State} (p : Presentation) (h : P s) : P (decideGrant s p).1 := by
  unfold Machine.decideGrant; split
  · exact hP.decideReferredOpen _ h
  · exact h
  · exact h
  · exact hP.decideUntracked _ _ h
  · exact hP.decideUnlisted _ h

theorem refuseBy {s : State} (p : Presentation) (k : Option EventKind) (h : P s) : P (s.refuseBy p k) := by
  unfold State.refuseBy; split
  · exact hP.report _ h
  · exact h

theorem recordGesture {s : State} (p : Presentation) (r : Reason) (h : P s) : P (s.recordGesture p r) := by
  unfold State.recordGesture; split
  · exact hP.recordTrail _ _ _ _ h
  · exact hP.recordTrail _ _ _ _ h
  · exact h

end JobClosed

namespace ExecClosed

variable {P : State → Prop} (hP : ExecClosed P)
include hP

/-! ## Frames, lines, notices -/

theorem send {s : State} (f : OutFrame) (h : P s) : P (s.send f) := by
  rw [State.send_eq]; exact hP.trunk _ h

theorem answer {s : State} (c k t : Nat) (r : ExecResult) (d : StatusData) (h : P s) : P (s.answer c k t r d) :=
  hP.send _ h

theorem reject {s : State} (c k t : Nat) (r : Reception) (h : P s) : P (s.reject c k t r) := hP.send _ h

theorem setLine {s : State} (l : LineNo) (x : Line) (h : P s) : P (s.setLine l x) := hP.lines _ h

theorem modifyLine {s : State} (l : LineNo) (f : Line → Line) (h : P s) : P (s.modifyLine l f) :=
  hP.setLine _ _ h

theorem setStation {s : State} (l : LineNo) (r : StationRec) (h : P s) : P (s.setStation l r) :=
  hP.setLine _ _ h

theorem oweNotice {s : State} (st : Station) (n : Notice) (h : P s) : P (s.oweNotice st n) := by
  unfold State.oweNotice
  split
  · exact h
  · dsimp only
    split
    · split
      · exact hP.setLine _ _ (hP.setStation _ _ h)
      · exact hP.setStation _ _ h
    · exact hP.setStation _ _ h

omit hP in
theorem whenOn {s : State} (f : State → State) (hf : P s → P (f s)) (h : P s) : P (s.whenOn f) := by
  unfold State.whenOn; split
  · exact hf h
  · exact h

theorem setEngineState {s : State} (e : EngineState) (h : P s) : P (s.setEngineState e) := hP.engine _ rfl h

theorem finishCommand {s : State} (r : ExecResult) (h : P s) : P (s.finishCommand r) := by
  unfold State.finishCommand; split
  · exact hP.answer _ _ _ _ _ (hP.setEngineState _ h)
  · exact h

/-! ## Charges -/

theorem rollover {s : State} (h : P s) : P s.rollover := by
  unfold State.rollover
  exact hP.report _ (hP.engine _ rfl (hP.clearDaily h))

theorem compareClock {s : State} (b : Bool) (h : P s) : P (s.compareClock b) := by
  unfold State.compareClock; split
  · dsimp only
    split
    · exact hP.enterLastCall (hP.rollover (hP.free _ h))
    · exact hP.rollover (hP.enterLastCall (hP.free _ h))
  · split
    · exact hP.rollover h
    · split
      · exact hP.enterLastCall h
      · exact h

/-! ## Verdicts and referrals -/

theorem dropVerdict {s : State} (st : Station) (c : Bool) (v : Verdict) (h : P s) : P (s.dropVerdict st c v) := by
  unfold State.dropVerdict; split
  · exact hP.abandonPassage _ _ h
  · exact h

theorem takeVerdict {s : State} (st : Station) (n : Nat) (c : Bool) (v : Verdict) (h : P s) :
    P (s.takeVerdict st n c v) := by
  unfold State.takeVerdict; split
  · exact hP.dropVerdict _ _ _ h
  · split
    · exact hP.dropVerdict _ _ _ h
    · split
      · exact hP.setStation _ _ h
      · exact hP.dropVerdict _ _ _ h

theorem writeRepeat {s : State} (st : Station) (n : Nat) (h : P s) : P (s.writeRepeat st n) := by
  unfold State.writeRepeat; split
  · exact h
  · split
    · exact hP.setStation _ _ h
    · exact h

theorem giveVerdict {s : State} (p : Presentation) (n : Nat) (v : Verdict) (h : P s) : P (s.giveVerdict p n v) :=
  hP.takeVerdict _ _ _ _ (hP.recordGesture _ _ (hP.writeRepeat _ _ h))

theorem fallback {s : State} (p : Presentation) (n : Nat) (c : FallbackCause) (h : P s) : P (s.fallback p n c) := by
  unfold State.fallback
  refine hP.report _ (hP.giveVerdict _ _ _ ?_)
  unfold decideFallback; split
  · exact hP.decideGrant _ h
  · exact h

theorem refer {s : State} (p : Presentation) (n : Nat) (c : ReferralCause) (h : P s) : P (s.refer p n c) := by
  unfold State.refer; split
  · exact hP.fallback _ _ _ h
  · split
    · exact hP.send _ (hP.referral _ h)
    · exact hP.fallback _ _ _ h

theorem dropReferral {s : State} (t : Nat) (h : P s) : P (s.dropReferral t) := hP.referral _ h

theorem fallbackAll (rs : List Referral) {s : State} (h : P s) : P (fallbackAll rs s) := by
  induction rs generalizing s with
  | nil => exact h
  | cons r rs ih => exact ih (hP.fallback _ _ _ (hP.dropReferral _ h))

theorem decidePresentation {s : State} (p : Presentation) (n : Nat) (h : P s) : P (s.decidePresentation p n) := by
  unfold State.decidePresentation
  split
  · refine hP.giveVerdict _ _ _ ?_
    split
    · exact h
    · exact hP.report _ h
  · split
    · exact hP.takeVerdict _ _ _ _ h
    · split
      · exact hP.refer _ _ _ h
      · rename_i e he
        have hk : e.data.number = p.card := lookup_number he
        split
        · exact hP.giveVerdict _ _ _ (hP.refuseBy _ _ h)
        · exact hP.refer _ _ _ h
        · exact hP.giveVerdict _ _ _ (hP.decideJob _ _ (hk ▸ he) h)

theorem takeRequest {s : State} (st : Station) (k : StationKind) (n : Nat) (q : Request) (h : P s) :
    P (s.takeRequest st k n q) := by
  have ht : ∀ r : State × Reason, P r.1 → P (terminalVerdict st n r) := fun r hr => hP.takeVerdict _ _ _ _ hr
  unfold State.takeRequest
  split
  · split
    · exact ht _ h
    · exact hP.decidePresentation _ _ h
  · split
    · exact ht _ (hP.decideComplete _ _ _ h)
    · exact ht _ h
  · split
    · exact ht _ (hP.decideCancel _ _ h)
    · exact ht _ h
  · split
    · exact ht _ (hP.decideReport _ _ h)
    · exact ht _ h

theorem redecide {s : State} (r : Referral) (v : AnswerVerdict) (h : P s) : P (s.redecide r v) := by
  unfold State.redecide
  dsimp only
  split
  · exact hP.giveVerdict _ _ _ h
  · rename_i e he
    have hk : e.data.number = r.presentation.card := lookup_number he
    split
    · exact hP.giveVerdict _ _ _ (hP.refuseBy _ _ h)
    · exact hP.giveVerdict _ _ _ h
    · split
      · exact hP.giveVerdict _ _ _ h
      · exact hP.giveVerdict _ _ _ (hP.decideJob _ _ (hk ▸ he) h)

theorem decideAnswered {s : State} (r : Referral) (v : AnswerVerdict) (h : P s) : P (s.decideAnswered r v) := by
  unfold State.decideAnswered; split
  · exact hP.giveVerdict _ _ _ h
  · exact hP.giveVerdict _ _ _ (hP.decideGrant _ h)

theorem takeAnswer {s : State} (t : Nat) (v : AnswerVerdict) (e : Option CardOffer) (h : P s) :
    P (takeAnswer s t v e).1 := by
  unfold Machine.takeAnswer; split
  · dsimp only
    split
    · exact hP.redecide _ _ (hP.installCard _ _ (hP.dropReferral _ h))
    · exact hP.decideAnswered _ _ (hP.installCard _ _ (hP.dropReferral _ h))
  · exact hP.installCard _ _ (hP.report _ h)

/-! ## Lines -/

theorem makeAbsent {s : State} (l : LineNo) (r : StationRec) (n : Nat) (h : P s) : P (s.makeAbsent l r n) := by
  unfold State.makeAbsent
  dsimp only
  refine hP.modifyLine _ _ ?_
  split
  · exact hP.abandonPassage _ _ (hP.referral _ (hP.report _ (hP.setStation _ _ h)))
  · exact hP.referral _ (hP.report _ (hP.setStation _ _ h))

theorem missStation {s : State} (l : LineNo) (r : StationRec) (h : P s) : P (s.missStation l r) := by
  unfold State.missStation; split
  · exact hP.setStation _ _ h
  · exact h
  · split
    · exact hP.makeAbsent _ _ _ h
    · exact hP.setStation _ _ h

theorem endInMiss {s : State} (l : LineNo) (x : Exchange) (h : P s) : P (s.endInMiss l x) := by
  unfold State.endInMiss
  dsimp only
  split
  · split
    · exact hP.missStation _ _ (hP.modifyLine _ _ h)
    · exact hP.modifyLine _ _ h
  · exact hP.modifyLine _ _ h

theorem missOn {s : State} (l : LineNo) (h : P s) : P (s.missOn l) := by
  unfold State.missOn; split
  · exact hP.endInMiss _ _ h
  · exact h

theorem goodReply {s : State} (l : LineNo) (r : StationRec) (x : Exchange) (h : P s) : P (s.goodReply l r x) := by
  unfold State.goodReply
  dsimp only
  split
  · exact hP.report _ (hP.setStation _ _ h)
  · exact hP.setStation _ _ h

theorem takeReply {s : State} (st : Station) (a : StationRec → Bool) (t : State → StationRec → State)
    (g : State → StationRec → Exchange → State) (ht : ∀ s r, P s → P (t s r)) (hg : ∀ s r x, P s → P (g s r x))
    (h : P s) : P (s.takeReply st a t g) := by
  unfold State.takeReply
  split; · exact h
  split; · exact hP.endInMiss _ _ h
  split; · exact hP.endInMiss _ _ h
  split; · exact ht _ _ (hP.modifyLine _ _ h)
  split
  · exact hg _ _ _ (hP.goodReply _ _ _ (hP.modifyLine _ _ h))
  · exact hP.endInMiss _ _ h

theorem failEcho {s : State} (l : LineNo) (r : StationRec) (h : P s) : P (failEcho l s r) := hP.setStation _ _ h

theorem takeIdle {s : State} (st : Station) (w : Sensors) (h : P s) : P (s.takeIdle st w) :=
  hP.takeReply _ _ _ _ (fun _ _ h => hP.failEcho _ _ h) (fun _ _ _ h => hP.takeLockWord _ _ _ h) h

theorem openRequest {s : State} (st : Station) (r : StationRec) (n : Nat) (q : Request) (h : P s) :
    P (s.openRequest st r n q) := by
  unfold State.openRequest; split
  · exact hP.oweNotice _ _ h
  · exact hP.takeRequest _ _ _ _ (hP.setStation _ _ h)

theorem takeRequestReply {s : State} (st : Station) (w : Sensors) (n : Nat) (q : Request) (h : P s) :
    P (s.takeRequestReply st w n q) :=
  hP.takeReply _ _ _ _ (fun _ _ h => hP.oweNotice _ _ (hP.failEcho _ _ h))
    (fun _ _ _ h => hP.openRequest _ _ _ _ (hP.takeLockWord _ _ _ h)) h

theorem takeAcknowledge {s : State} (st : Station) (w : Sensors) (n : Nat) (h : P s) :
    P (s.takeAcknowledge st w n) := by
  refine hP.takeReply _ _ _ _ (fun _ _ h => hP.failEcho _ _ h) (fun s r x h => ?_) h
  dsimp only
  split
  · exact hP.modifyLine _ _ (hP.setStation _ _ (hP.takeLockWord _ _ _ h))
  · exact hP.takeLockWord _ _ _ h

theorem takeThroughUp {s : State} (st : Station) (d : List Byte) (h : P s) : P (s.takeThroughUp st d) := by
  refine hP.takeReply _ _ _ _ (fun _ _ h => hP.failEcho _ _ h) (fun s r x h => ?_) h
  split
  · exact hP.send _ h
  · exact hP.oweNotice _ _ h

theorem takeEcho {s : State} (st : Station) (d : List Byte) (h : P s) : P (s.takeEcho st d) := by
  refine hP.takeReply _ _ _ _ (fun s r h => ?_) (fun _ _ _ h => h) h
  split
  · exact hP.setStation _ _ h
  · exact hP.failEcho _ _ h

theorem enrollStation {s : State} (l a k : Nat) (d : Option Nat) (h : P s) : P (enrollStation s l a k d).1 := by
  unfold Machine.enrollStation; split
  · split; · exact h
    split; · exact h
    dsimp only; exact hP.modifyLine _ _ h
  · exact h

theorem removeStation {s : State} (l a : Nat) (h : P s) : P (removeStation s l a).1 := by
  unfold Machine.removeStation
  split; · exact h
  split; · exact h
  split; · exact h
  split; · exact h
  split; · exact h
  dsimp only
  split
  · exact hP.detach _ (hP.modifyLine _ _ h)
  · exact hP.modifyLine _ _ h

theorem setLineSettings {s : State} (l a b c : Nat) (h : P s) : P (setLineSettings s l a b c).1 := by
  unfold Machine.setLineSettings; split
  · split
    · exact h
    · exact h
    · dsimp only; exact hP.modifyLine _ _ h
    · split <;> (dsimp only; exact hP.modifyLine _ _ h)
  · exact h

theorem startLineTest {s : State} (l : Nat) (h : P s) : P (startLineTest s l).1 := by
  unfold Machine.startLineTest; split
  · exact h
  · split
    · exact h
    · exact h
    · split
      · exact h
      · exact hP.modifyLine _ _ h

theorem endLineTest {s : State} (l : Nat) (h : P s) : P (endLineTest s l).1 := by
  unfold Machine.endLineTest; split
  · exact h
  · split
    · exact hP.modifyLine _ _ h
    · exact h

theorem queueThrough {s : State} (l a : Nat) (d : List Byte) (h : P s) : P (queueThrough s l a d).1 := by
  unfold Machine.queueThrough
  split; · exact h
  split; · exact h
  split; · exact h
  split; · exact h
  split; · exact h
  exact hP.setStation _ _ h

/-! ## The trunk -/

theorem trunkUp {s : State} (h : P s) : P s.trunkUp := hP.report _ (hP.trunk _ h)

theorem receive {s : State} (f : State → State) (hf : ∀ s, P s → P (f s)) (h : P s) : P (s.receive f) := by
  unfold State.receive; split
  · refine hf _ ?_
    split
    · exact h
    · exact hP.trunkUp h
  · exact h

theorem engineFrame {s : State} (c k t : Nat) (f : State → State) (hf : ∀ s, P s → P (f s)) (h : P s) :
    P (s.engineFrame c k t f) := by
  refine hP.receive _ (fun s h => ?_) h
  split
  · exact hf _ h
  · exact hP.answer _ _ _ _ _ h

theorem command {s : State} (k t : Nat) (f : State → State × ExecResult × StatusData)
    (hf : ∀ s, P s → P (f s).1) (h : P s) : P (s.command k t f) :=
  hP.engineFrame _ _ _ _ (fun _ h => hP.answer _ _ _ _ _ (hf _ h)) h

theorem finishData {s : State} (x : Loading) (h : P s) : P (s.finishData x) :=
  hP.answer _ _ _ _ _ (hP.engine _ rfl h)

theorem settleNext {s : State} (h : P s) : P s.settleNext := by
  unfold State.settleNext
  split
  · split
    · dsimp only
      split
      · exact hP.finishData _ (hP.settleEntry _ _ h)
      · exact hP.setEngineState _ (hP.settleEntry _ _ h)
    · exact hP.finishData _ h
  · exact h

theorem takeData {s : State} (t : Nat) (b : List Byte) (h : P s) : P (s.takeData t b) := by
  unfold State.takeData
  split; · exact hP.answer _ _ _ _ _ h
  split; · exact hP.reject _ _ _ _ h
  exact hP.settleNext (hP.setEngineState _ h)

theorem oweLostThrough {s : State} (f : OutFrame) (h : P s) : P (s.oweLostThrough f) := by
  unfold State.oweLostThrough; split
  · split
    · split
      · exact hP.oweNotice _ _ h
      · exact h
    · exact h
  · exact h

theorem oweAllLost (fs : List OutFrame) {s : State} (h : P s) : P (oweAllLost fs s) := by
  induction fs generalizing s with
  | nil => exact h
  | cons f fs ih => exact ih (hP.oweLostThrough _ h)

theorem loseTrunk {s : State} (h : P s) : P s.loseTrunk :=
  hP.fallbackAll _ (hP.oweAllLost _ (hP.report _ (hP.trunk _ h)))

/-! ## Restarts -/

theorem compareRunning {s : State} (h : P s) : P s.compareRunning := by
  unfold State.compareRunning; split
  · exact hP.compareClock _ (hP.engine _ rfl h)
  · exact hP.compareClock _ h

theorem compareAtRestart {s : State} (h : P s) : P s.compareAtRestart := by
  unfold State.compareAtRestart; split
  · exact hP.compareClock _ (hP.engine _ rfl h)
  · exact hP.compareClock _ h

theorem discardWork {s : State} (c : RestartCause) (h : P s) : P (s.discardWork c) :=
  hP.engine _ rfl (hP.referral _ (hP.trunk _ (hP.cabinsAfterWarm (hP.lines _ h))))

theorem takeLevels {s : State} (l : Levels) (h : P s) : P (s.takeLevels l) :=
  hP.alarmIfHeld _ (hP.alarmIfHeld _ (hP.alarmIfHeld _ (hP.alarmIfHeld _ (hP.musterKept _ rfl id h))))

theorem warmRestart {s : State} (c : RestartCause) (l : Levels) (h : P s) : P (s.warmRestart c l) := by
  have h1 := hP.discardWork c h
  have h2 := hP.lapseAll h1
  have h3 := hP.dropPassages [] (List.nil_sublist _) h2
  exact hP.report _ (hP.takeLevels _ (hP.compareAtRestart h3))

theorem powerUp {s : State} (h : P s) : P s.powerUp := hP.timebase _ (hP.power _ h)

/-! ## Management commands -/

theorem setClock {s : State} (t : DateTime) (h : P s) : P (setClock s t).1 := by
  unfold Machine.setClock; split
  · exact hP.compareClock _ (hP.engine _ rfl h)
  · exact h

theorem setProfile {s : State} (o : ProfileOffer) (h : P s) : P (setProfile s o).1 := by
  unfold Machine.setProfile; split
  · rename_i p hp
    exact hP.profile o p _ hp h
  · exact h

theorem setVesselCodes {s : State} (a b c d : Nat) (h : P s) : P (setVesselCodes s a b c d).1 := by
  unfold Machine.setVesselCodes; split
  · exact hP.engine _ rfl h
  · exact h

theorem openLoad {s : State} (t m : Nat) (h : P s) : P (openLoad s t m).1 := by
  unfold Machine.openLoad; split
  · split; · exact h
    split; · exact h
    exact hP.engine _ rfl h
  · exact h

theorem closeLoad {s : State} (h : P s) : P (closeLoad s).1 := by
  unfold Machine.closeLoad; split
  · exact h
  · exact hP.engine _ rfl h

theorem setProtection {s : State} (a b c : Nat) (r : Option (Nat × Nat)) (h : P s) :
    P (setProtection s a b c r).1 := by
  unfold Machine.setProtection; split
  · split; · exact h
    split; · exact h
    split; · exact h
    exact hP.engine _ rfl h
  · exact h

theorem releaseProtection {s : State} (h : P s) : P (releaseProtection s).1 := by
  unfold Machine.releaseProtection; split
  · exact hP.engine _ rfl h
  · exact h

theorem openPortCall {s : State} (t : DateTime) (h : P s) : P (openPortCall s t).1 := by
  unfold Machine.openPortCall
  split; · exact h
  split; · exact h
  split <;> exact hP.port _ rfl rfl h

theorem closePortCall {s : State} (h : P s) : P (closePortCall s).1 := by
  unfold Machine.closePortCall
  split; · exact h
  split
  · exact hP.port _ rfl rfl h
  · exact h

theorem startMuster {s : State} (o : Nat) (h : P s) : P (startMuster s o).1 := by
  unfold Machine.startMuster
  split; · exact h
  rename_i ho
  split
  · rename_i hm; exact hP.enterMuster _ _ hm (readMusterOption_ne ho) h
  · rename_i hm
    split
    · exact hP.escalateMuster _ hm h
    · exact h
  · exact h

theorem finishMuster {s : State} (h : P s) : P (finishMuster s).1 := by
  unfold Machine.finishMuster
  split; · exact h
  split; · exact h
  exact hP.endMuster h

theorem configureAlarm {s : State} (i m : Nat) (h : P s) : P (configureAlarm s i m).1 := by
  unfold Machine.configureAlarm; split
  · exact hP.alarmIfHeld _ (hP.modifyInput _ _ h)
  · exact h

theorem readEvents {s : State} (n : Nat) (h : P s) : P (readEvents s n).1 := by
  unfold Machine.readEvents; split
  · exact hP.events _ (by simp) h
  · exact h

theorem setEventKinds {s : State} (vs : List Nat) (h : P s) : P (setEventKinds s vs).1 := by
  unfold Machine.setEventKinds; split
  · exact hP.events _ (by simp) h
  · exact h

theorem releaseJournal {s : State} (n : Nat) (h : P s) : P (releaseJournal s n).1 := by
  unfold Machine.releaseJournal
  split; · exact h
  split; · exact h
  exact hP.release _ h

end ExecClosed

/-! ## Every command -/

/-- Every command answers a next state, and keeps every property that the primitive changes keep. -/
theorem exec_closed {P : State → Prop} (hP : ExecClosed P) (c : Instr) (s : State) (h : P s) :
    ∃ t, exec c s = .next t ∧ P t := by
  cases c
  case statusRead => exact ⟨_, rfl, hP.command _ _ _ (fun _ h => h) h⟩
  case clockSet => exact ⟨_, rfl, hP.command _ _ _ (fun _ h => hP.setClock _ h) h⟩
  case profileSet => exact ⟨_, rfl, hP.command _ _ _ (fun _ h => hP.setProfile _ h) h⟩
  case profileRead => exact ⟨_, rfl, hP.command _ _ _ (fun _ h => h) h⟩
  case lineSettings =>
    refine ⟨_, rfl, hP.engineFrame _ _ _ _ (fun s h => ?_) h⟩
    dsimp only
    split
    · exact hP.answer _ _ _ _ _ (hP.setLineSettings _ _ _ _ h)
    · exact hP.setEngineState _ (hP.setLineSettings _ _ _ _ h)
  case lineTestStart => exact ⟨_, rfl, hP.command _ _ _ (fun _ h => hP.startLineTest _ h) h⟩
  case lineTestEnd => exact ⟨_, rfl, hP.command _ _ _ (fun _ h => hP.endLineTest _ h) h⟩
  case stationEnroll => exact ⟨_, rfl, hP.command _ _ _ (fun _ h => hP.enrollStation _ _ _ _ h) h⟩
  case stationRemove => exact ⟨_, rfl, hP.command _ _ _ (fun _ h => hP.removeStation _ _ h) h⟩
  case vesselCodesSet => exact ⟨_, rfl, hP.command _ _ _ (fun _ h => hP.setVesselCodes _ _ _ _ h) h⟩
  case loadOpen => exact ⟨_, rfl, hP.command _ _ _ (fun _ h => hP.openLoad _ _ h) h⟩
  case loadClose => exact ⟨_, rfl, hP.command _ _ _ (fun _ h => hP.closeLoad h) h⟩
  case entryRead => exact ⟨_, rfl, hP.command _ _ _ (fun _ h => h) h⟩
  case accountWrite => exact ⟨_, rfl, hP.command _ _ _ (fun _ h => hP.writeAccount _ _ _ _ h) h⟩
  case cabinWrite => exact ⟨_, rfl, hP.command _ _ _ (fun _ h => hP.writeCabin _ _ _ _ h) h⟩
  case presenceSet => exact ⟨_, rfl, hP.command _ _ _ (fun _ h => hP.setCardPresence _ _ _ h) h⟩
  case portCallOpen => exact ⟨_, rfl, hP.command _ _ _ (fun _ h => hP.openPortCall _ h) h⟩
  case portCallClose => exact ⟨_, rfl, hP.command _ _ _ (fun _ h => hP.closePortCall h) h⟩
  case journalRead => exact ⟨_, rfl, hP.command _ _ _ (fun _ h => h) h⟩
  case journalRelease => exact ⟨_, rfl, hP.command _ _ _ (fun _ h => hP.releaseJournal _ h) h⟩
  case counterRead => exact ⟨_, rfl, hP.command _ _ _ (fun _ h => h) h⟩
  case ashoreRead => exact ⟨_, rfl, hP.command _ _ _ (fun _ h => h) h⟩
  case musterStart => exact ⟨_, rfl, hP.command _ _ _ (fun _ h => hP.startMuster _ h) h⟩
  case musterEnd => exact ⟨_, rfl, hP.command _ _ _ (fun _ h => hP.finishMuster h) h⟩
  case musterRollRead => exact ⟨_, rfl, hP.command _ _ _ (fun _ h => h) h⟩
  case unaccountedRead => exact ⟨_, rfl, hP.command _ _ _ (fun _ h => h) h⟩
  case alarmConfig => exact ⟨_, rfl, hP.command _ _ _ (fun _ h => hP.configureAlarm _ _ h) h⟩
  case alarmStatus => exact ⟨_, rfl, hP.command _ _ _ (fun _ h => hP.musterKept _ rfl id h) h⟩
  case eventRead => exact ⟨_, rfl, hP.command _ _ _ (fun _ h => hP.readEvents _ h) h⟩
  case eventKinds => exact ⟨_, rfl, hP.command _ _ _ (fun _ h => hP.setEventKinds _ h) h⟩
  case protectionSet => exact ⟨_, rfl, hP.command _ _ _ (fun _ h => hP.setProtection _ _ _ _ h) h⟩
  case protectionGet => exact ⟨_, rfl, hP.command _ _ _ (fun _ h => h) h⟩
  case protectionRelease => exact ⟨_, rfl, hP.command _ _ _ (fun _ h => hP.releaseProtection h) h⟩
  case restart =>
    refine ⟨_, rfl, hP.engineFrame _ _ _ _ (fun s h => ?_) h⟩
    dsimp only
    split
    · exact hP.answer _ _ _ _ _ h
    · exact hP.answer _ _ _ _ _ (hP.engine _ rfl h)
  case dataFrame => exact ⟨_, rfl, hP.engineFrame _ _ _ _ (fun _ h => hP.takeData _ _ h) h⟩
  case answerFrame =>
    exact ⟨_, rfl, hP.receive _ (fun _ h => hP.answer _ _ _ _ _ (hP.takeAnswer _ _ _ h)) h⟩
  case throughDown =>
    exact ⟨_, rfl, hP.receive _ (fun _ h => hP.answer _ _ _ _ _ (hP.queueThrough _ _ _ h)) h⟩
  case frameCheckFailed =>
    refine ⟨_, rfl, ExecClosed.whenOn _ (fun h => ?_) h⟩
    split
    · exact hP.reject _ _ _ _ h
    · exact h
  case unknownKind => exact ⟨_, rfl, hP.receive _ (fun _ h => hP.reject _ _ _ _ h) h⟩
  case malformed => exact ⟨_, rfl, hP.receive _ (fun _ h => hP.reject _ _ _ _ h) h⟩
  case outboundClassDiscarded => exact ⟨_, rfl, hP.receive _ (fun _ h => h) h⟩
  case frameGapTimeout =>
    refine ⟨_, rfl, ExecClosed.whenOn _ (fun h => ?_) h⟩
    split
    · exact hP.trunk _ h
    · exact h
  case carrierLost =>
    refine ⟨_, rfl, ExecClosed.whenOn _ (fun h => ?_) (hP.trunk _ h)⟩
    split
    · exact hP.loseTrunk h
    · exact hP.trunk _ h
  case carrierRegained => exact ⟨_, rfl, hP.trunk _ h⟩
  case restartBegin =>
    refine ⟨_, rfl, ExecClosed.whenOn _ (fun h => ?_) h⟩
    split
    · exact hP.cold _ _ h
    · exact hP.warmRestart _ _ h
    · exact h
  case mainPowerLost => exact ⟨_, rfl, ExecClosed.whenOn _ (fun h => hP.power _ h) h⟩
  case mainPowerApplied =>
    refine ⟨_, rfl, ?_⟩
    split; · exact h
    split; · exact hP.cold _ _ (hP.powerUp h)
    split; · exact hP.cold _ _ (hP.powerUp h)
    exact hP.warmRestart _ _ (hP.powerUp h)
  case retentionSupplyLow =>
    refine ⟨_, rfl, ?_⟩
    split
    · exact h
    · exact hP.power _ h
  case poll => exact ⟨_, rfl, ExecClosed.whenOn _ (fun h => hP.modifyLine _ _ h) h⟩
  case replyTimeout =>
    refine ⟨_, rfl, ExecClosed.whenOn _ (fun h => ?_) h⟩
    split
    · exact hP.missOn _ h
    · exact h
  case badReply => exact ⟨_, rfl, ExecClosed.whenOn _ (fun h => hP.missOn _ h) h⟩
  case idle => exact ⟨_, rfl, ExecClosed.whenOn _ (fun h => hP.takeIdle _ _ h) h⟩
  case request => exact ⟨_, rfl, ExecClosed.whenOn _ (fun h => hP.takeRequestReply _ _ _ _ h) h⟩
  case acknowledge => exact ⟨_, rfl, ExecClosed.whenOn _ (fun h => hP.takeAcknowledge _ _ _ h) h⟩
  case throughUp => exact ⟨_, rfl, ExecClosed.whenOn _ (fun h => hP.takeThroughUp _ _ h) h⟩
  case echo => exact ⟨_, rfl, ExecClosed.whenOn _ (fun h => hP.takeEcho _ _ h) h⟩
  case settleIntervalEnd =>
    refine ⟨_, rfl, ExecClosed.whenOn _ (fun h => ?_) h⟩
    split
    · exact hP.finishCommand _ (hP.modifyLine _ _ h)
    · exact h
  case lineSettingsWaitTimeout =>
    refine ⟨_, rfl, ExecClosed.whenOn _ (fun h => ?_) h⟩
    split
    · exact hP.finishCommand _ (hP.modifyLine _ _ h)
    · exact h
  case windowEnd =>
    refine ⟨_, rfl, ExecClosed.whenOn _ (fun h => ?_) h⟩
    split
    · rename_i hc
      split
      · exact hP.keepCabin _ (lookup_some_mem _ hc) rfl h
      · exact h
    · exact h
  case overrideEnd =>
    refine ⟨_, rfl, ExecClosed.whenOn _ (fun h => ?_) h⟩
    split
    · rename_i hc
      split
      · exact hP.keepCabin _ (lookup_some_mem _ hc) (Cabin.data_reevaluate _) h
      · exact h
    · exact h
  case holdLapse =>
    refine ⟨_, rfl, ExecClosed.whenOn _ (fun h => ?_) h⟩
    split
    · rename_i x hx
      split
      · exact hP.lapseHold _ (State.hold?_mem hx) h
      · exact h
    · exact h
  case passageConfirmTimeout =>
    refine ⟨_, rfl, ExecClosed.whenOn _ (fun h => ?_) h⟩
    split
    · split
      · exact hP.abandonPassage _ _ h
      · exact h
    · exact h
  case referralTimeout =>
    refine ⟨_, rfl, ExecClosed.whenOn _ (fun h => ?_) h⟩
    split
    · split
      · exact hP.fallback _ _ _ (hP.dropReferral _ h)
      · exact h
    · exact h
  case loadGapExpiry =>
    refine ⟨_, rfl, ExecClosed.whenOn _ (fun h => ?_) h⟩
    split
    · exact hP.report _ (hP.engine _ rfl h)
    · exact h
  case dayBoundary =>
    refine ⟨_, rfl, ExecClosed.whenOn _ (fun h => ?_) h⟩
    split
    · exact hP.rollover (hP.engine _ rfl h)
    · exact h
  case allAboardDue =>
    refine ⟨_, rfl, ExecClosed.whenOn _ (fun h => ?_) h⟩
    split
    · exact hP.enterLastCall h
    · exact h
  case alarmInput => exact ⟨_, rfl, ExecClosed.whenOn _ (fun h => hP.alarmChange _ _ h) h⟩
  case lengthNotReadable =>
    refine ⟨_, rfl, ExecClosed.whenOn _ (fun h => ?_) h⟩
    split
    · exact hP.trunk _ h
    · exact h

/-- A step keeps what the commands keep and what a tick keeps. -/
theorem step_closed {P : State → Prop} (hP : ExecClosed P) (hq : ∀ {s} (q : List Instr), P s → P (s.setPending q))
    (ht : ∀ {s : State}, P s → P s.countTime) (s t : State) (h : P s) (hs : step s = .next t) : P t := by
  unfold step at hs
  split at hs
  · cases hs
    unfold State.tick
    split
    · exact hq _ (hP.trunk _ (hP.settleNext (hP.compareRunning (ht h))))
    · exact hP.engine _ rfl h
  · rename_i c rest _
    obtain ⟨t', h1, h2⟩ := exec_closed hP c (s.setPending rest) (hq rest h)
    rw [show exec c { s with pending := rest } = exec c (s.setPending rest) from rfl, h1] at hs
    cases hs
    exact h2

/-- The receiver's bytes are all that settling its frames changes. -/
theorem TrunkPort.frames_keep (t : TrunkPort) : t.frames.2 = { t with received := t.frames.2.received } := rfl

/-- A byte that arrives keeps what the commands keep, whatever waits in the queue. -/
theorem receiveByte_closed {P : State → Prop} (hP : ExecClosed P)
    (hq : ∀ {s} (q : List Instr), P s → P (s.setPending q)) (ht : ∀ {s : State}, P s → P s.countTime) (b : Byte)
    {s : State} (h : P s) : P (s.receiveByte b) := by
  have key : ∀ (l : List Instr) {u : State}, P u →
      P (l.foldl (fun t _ => match step t with | .next v => v | _ => t) u) := by
    intro l
    induction l with
    | nil => exact fun hu => hu
    | cons c l ih =>
      intro u hu
      refine ih (u := match step u with | .next v => v | _ => u) ?_
      split
      · rename_i v hv; exact step_closed hP hq ht u v hu hv
      · exact hu
  unfold State.receiveByte State.byteTaken
  split
  · exact hq _ (hP.trunk _ (key s.pending h))
  · exact key s.pending h

end Sys2Proof.Machine
end

