-- ==== Sys2Proof/Tests/Slice0.lean ====
section
/-! SUPPORT. Tests of the model: ill-formed commands refused, witnesses of the statements' hypotheses at the
boundary values of their clauses, and the outcome of commands on a small part. -/

namespace Sys2Proof.Tests

open Sys2Proof Sys2Proof.Machine Sys2Proof.Claims

/-! ## A small part -/

/-- Reset with the trunk Up. -/
def base : State := { State.reset with trunk := { State.reset.trunk with up := true } }

/-- Main power off. -/
def off : State := { base with power := { mainOn := false, retentionValid := true } }

/-- The Command Engine is Executing. -/
def busy : State := { base with engine := { base.engine with state := .executing 5 1 } }

def st (a : Nat) : Station := { line := 0, addr := a }

/-- Line 0 with one station of each kind, at addresses 1 to 5. -/
def line0 : Line :=
  { Line.cold with
    state := .running
    stations := [enrolled 1 .lock .present, enrolled 2 (.bar 5) .present, enrolled 3 .gate .present,
                 enrolled 4 (.musterPoint 7) .present, enrolled 5 .through .present] }

def card (n : Nat) (c : HolderClass) (p : Presence) : CardEntry :=
  { data := { number := n, issue := 1, cls := c, status := .active, account := some 7, cabins := [1], zones := [2],
              window := none, musterStation := 3, search := false }
    presence := p, stamp := 4, mark := .unmarked }

def guest : CardEntry := card 10 .guest .aboard
def officer : CardEntry := card 20 .officer .ashore

def cabin1 : Cabin :=
  { data := { number := 1, zone := 2, lock := some (st 1), pattern := ⟨true, true, false, true⟩,
              mask := ⟨true, true, false, true⟩, openMask := none, tamper := .lockOut }
    lockState := .secured, windowEnd := none, overrideEnd := none, lastWord := none, watch := .armed
    privacy := false, trail := [] }

def account7 : Account :=
  { number := 7, state := .opened, voyageCap := 100, voyageSpent := 40, dailyCap := 60, dailySpent := 20,
    heldTotal := 10 }

def hold3 : Hold :=
  { tag := 3, card := 10, account := 7, station := st 2, outlet := 5, reference := 1, amount := 10
    goods := .ordinary, left := 0, detached := false }

/-- The part with line 0, two cards, a cabin, an account with a hold, in port. -/
def part : State :=
  { base with
    lines := base.lines.set 0 line0
    cards := [guest, officer]
    cabins := [cabin1]
    charge := { accounts := [account7], holds := [hold3], lastTag := 3, journal := [], lastNumber := 0 }
    passage := { base.passage with
      port := .inPort { year := 2030, month := 6, day := 1, hour := 18, minute := 0, second := 0 }
      counters := { base.passage.counters with guest := ⟨1, 0, 0⟩, officer := ⟨0, 1, 0⟩ } }
    engine := { base.engine with vesselCodes := #v[some 9, none, none, none] } }

def withEngine (s : State) (f : CommandEngine → CommandEngine) : State := { s with engine := f s.engine }

/-- The part with its clock at a time and a next boundary. -/
def clocked (s : State) (now boundary : DateTime) : State :=
  withEngine s fun e => { e with voyage := { e.voyage with time := some now, boundary := some boundary } }

def clockAt (h m sec : Nat) : DateTime := { year := 2030, month := 6, day := 1, hour := h, minute := m, second := sec }

/-- The state a command leaves. -/
def out (c : Instr) (s : State) : State :=
  match exec c s with
  | .next t => t
  | _ => s

/-- The result of the last Status handed by a command. -/
def res (c : Instr) (s : State) : Option ExecResult :=
  match (out c s).trunk.outgoing.getLast? with
  | some (.status x) => x.result
  | _ => none

/-- The data of the last Status handed by a command. -/
def dat (c : Instr) (s : State) : StatusData :=
  match (out c s).trunk.outgoing.getLast? with
  | some (.status x) => x.data
  | _ => .none

/-- The kinds of the events held. -/
def kinds (s : State) : List EventKind := s.events.records.map fun r => r.kind

theorem takes_base : takes base := ⟨⟨rfl, rfl⟩, rfl⟩
theorem takes_part : takes part := ⟨⟨rfl, rfl⟩, rfl⟩

/-! ## Ill-formed commands are refused, boundary operands are not -/

def someTime : DateTime := clockAt 4 0 0

def offer : CardOffer :=
  { number := 10, issue := 1, cls := 1, status := 1, account := some 7, cabins := [1, 9999], zones := [2, 16]
    window := none, musterStation := 3, search := 2, presence := some 1 }

def profileFields : ProfileOffer := offerOf Profile.default

/-- A tag of more than two bytes, on every row that carries one. -/
theorem test_illFormed_tags :
    [Instr.statusRead 65536, .clockSet 65536 someTime, .profileSet 65536 profileFields, .profileRead 65536,
      .lineSettings 65536 0 1 10 50, .lineTestStart 65536 0, .lineTestEnd 65536 0, .stationEnroll 65536 0 1 1 none,
      .stationRemove 65536 0 1, .vesselCodesSet 65536 0 0 0 0, .loadOpen 65536 1 1, .loadClose 65536,
      .entryRead 65536 1 1, .accountWrite 65536 1 none none none, .cabinWrite 65536 1 none none none,
      .presenceSet 65536 1 1 1, .portCallOpen 65536 someTime, .portCallClose 65536, .journalRead 65536 1 1,
      .journalRelease 65536 1, .counterRead 65536, .ashoreRead 65536 1, .musterStart 65536 1, .musterEnd 65536,
      .musterRollRead 65536, .unaccountedRead 65536 1, .alarmConfig 65536 1 1, .alarmStatus 65536, .eventRead 65536 1,
      .eventKinds 65536 (List.replicate 28 1), .protectionSet 65536 1 1 1 none, .protectionGet 65536,
      .protectionRelease 65536, .restart 65536 1, .dataFrame 65536 [], .answerFrame 65536 .grant none,
      .throughDown 65536 0 1 [], .frameCheckFailed 1 1 65536, .unknownKind 9 1 65536, .malformed 1 1 65536,
      .outboundClassDiscarded 3 0 65536].map Instr.wellFormed = List.replicate 41 false := by decide

/-- One operand that does not fit its field, field by field. -/
theorem test_illFormed_fields :
    [Instr.clockSet 0 { someTime with year := 65536 }, .clockSet 0 { someTime with month := 256 },
      .clockSet 0 { someTime with day := 256 }, .clockSet 0 { someTime with hour := 256 },
      .clockSet 0 { someTime with minute := 256 }, .clockSet 0 { someTime with second := 256 },
      .portCallOpen 0 { someTime with second := 256 },
      .lineSettings 0 256 1 10 50, .lineSettings 0 0 256 10 50, .lineSettings 0 0 1 256 50,
      .lineSettings 0 0 1 10 65536, .lineTestStart 0 256, .lineTestEnd 0 256, .stationEnroll 0 256 1 1 none,
      .stationEnroll 0 0 256 1 none, .stationEnroll 0 0 1 256 none, .stationEnroll 0 0 1 1 (some 256),
      .stationRemove 0 256 1, .stationRemove 0 0 256, .vesselCodesSet 0 65536 0 0 0, .vesselCodesSet 0 0 65536 0 0,
      .vesselCodesSet 0 0 0 65536 0, .vesselCodesSet 0 0 0 0 65536, .loadOpen 0 256 1, .loadOpen 0 1 256,
      .entryRead 0 256 1, .entryRead 0 1 16777216, .entryRead 0 3 65536, .accountWrite 0 16777216 none none none,
      .accountWrite 0 1 (some 256) none none, .accountWrite 0 1 none (some 4294967296) none,
      .accountWrite 0 1 none none (some 4294967296), .cabinWrite 0 65536 none none none,
      .cabinWrite 0 1 (some 256) none none, .cabinWrite 0 1 none (some (256, 0)) none,
      .cabinWrite 0 1 none (some (0, 256)) none, .cabinWrite 0 1 none none (some 256),
      .presenceSet 0 16777216 1 1, .presenceSet 0 1 256 1, .presenceSet 0 1 1 4294967296,
      .journalRead 0 4294967296 1, .journalRead 0 1 256, .journalRelease 0 4294967296, .ashoreRead 0 16777216,
      .musterStart 0 256, .unaccountedRead 0 16777216, .alarmConfig 0 256 1, .alarmConfig 0 1 256,
      .eventRead 0 256, .eventKinds 0 (List.replicate 27 1), .eventKinds 0 (256 :: List.replicate 27 1),
      .protectionSet 0 256 1 1 none, .protectionSet 0 1 256 1 none, .protectionSet 0 1 1 256 none,
      .protectionSet 0 1 1 1 (some (16777216, 1)), .protectionSet 0 1 1 1 (some (1, 16777216)),
      .restart 0 256].map Instr.wellFormed = List.replicate 57 false := by decide

theorem test_illFormed_profiles :
    [{ profileFields with openWindow := 256 }, { profileFields with entryGrace := 256 },
      { profileFields with holdLifetime := 65536 }, { profileFields with terminalHoldLimit := 256 },
      { profileFields with confirmTimeout := 256 }, { profileFields with referralTimeout := 256 },
      { profileFields with repeatWindow := 256 }, { profileFields with missLimit := 256 },
      { profileFields with loadGapTimeout := 256 }, { profileFields with dayBoundaryHour := 256 },
      { profileFields with countMode := 256 }, { profileFields with openFallback := 256 },
      { profileFields with passageFallback := 256 }].map (fun o => (Instr.profileSet 0 o).wellFormed) =
      List.replicate 13 false := by decide

theorem test_illFormed_cards :
    [{ offer with number := 16777216 }, { offer with issue := 256 }, { offer with cls := 256 },
      { offer with status := 256 }, { offer with account := some 16777216 },
      { offer with cabins := List.replicate 256 1 }, { offer with cabins := [65536] },
      { offer with zones := List.replicate 256 1 }, { offer with zones := [256] },
      { offer with window := some (someTime, { someTime with year := 65536 }) },
      { offer with window := some ({ someTime with year := 65536 }, someTime) },
      { offer with musterStation := 256 }, { offer with search := 256 },
      { offer with presence := some 256 }].map (fun o => (Instr.answerFrame 0 .grant (some o)).wellFormed) =
      List.replicate 14 false := by decide +kernel

theorem test_illFormed_frames_and_replies :
    [Instr.throughDown 0 256 1 [], .throughDown 0 0 256 [], .frameCheckFailed 256 0 0, .frameCheckFailed 0 256 0,
      .unknownKind 1 34 0, .unknownKind 5 0 0, .unknownKind 4 0 0, .unknownKind 256 0 0, .unknownKind 9 256 0,
      .malformed 1 35 0, .malformed 1 0 0, .malformed 2 0 0, .malformed 5 1 0, .outboundClassDiscarded 1 0 0,
      .outboundClassDiscarded 3 256 0, .idle (st 256) ⟨true, true, true, true⟩,
      .request (st 1) ⟨true, true, true, true⟩ 256 (.cancel 1),
      .request (st 1) ⟨true, true, true, true⟩ 1 (.cancel 65536),
      .request (st 1) ⟨true, true, true, true⟩ 1 (.complete 65536 1),
      .request (st 1) ⟨true, true, true, true⟩ 1 (.complete 1 16777216),
      .request (st 1) ⟨true, true, true, true⟩ 1 (.passageReport 256),
      .request (st 1) ⟨true, true, true, true⟩ 1 (.presentation 65536 1 1 .none),
      .request (st 1) ⟨true, true, true, true⟩ 1 (.presentation 1 16777216 1 .none),
      .request (st 1) ⟨true, true, true, true⟩ 1 (.presentation 1 1 256 .none),
      .request (st 1) ⟨true, true, true, true⟩ 1 (.presentation 1 1 1 (.gesture 256)),
      .request (st 1) ⟨true, true, true, true⟩ 1 (.presentation 1 1 1 (.sale 16777216 1 1)),
      .request (st 1) ⟨true, true, true, true⟩ 1 (.presentation 1 1 1 (.sale 1 256 1)),
      .request (st 1) ⟨true, true, true, true⟩ 1 (.presentation 1 1 1 (.sale 1 1 65536)),
      .request (st 1) ⟨true, true, true, true⟩ 1 (.presentation 1 1 1 (.direction 256)),
      .acknowledge (st 256) ⟨true, true, true, true⟩ 1, .acknowledge (st 1) ⟨true, true, true, true⟩ 256,
      .throughUp (st 256) [0], .throughUp (st 1) [], .throughUp (st 1) (List.replicate 65 0),
      .echo (st 256) (List.replicate 16 0), .echo (st 1) (List.replicate 15 0), .windowEnd 0, .windowEnd 10000,
      .overrideEnd 0, .overrideEnd 10000, .holdLapse 0, .holdLapse 65536, .passageConfirmTimeout (st 0),
      .passageConfirmTimeout (st 32), .referralTimeout 0, .referralTimeout 65536].map Instr.wellFormed =
      List.replicate 46 false := by decide +kernel

/-- The body of a Data frame and the data of a Through-down frame beyond a frame's Length (R189). -/
theorem test_illFormed_long_bodies :
    (Instr.dataFrame 0 (List.replicate 1025 0)).wellFormed = false ∧
    (Instr.throughDown 0 0 1 (List.replicate 1023 0)).wellFormed = false := by decide +kernel

theorem test_wellFormed_boundaries :
    [Instr.statusRead 65535, .lineSettings 65535 255 255 255 65535, .entryRead 0 3 65535, .entryRead 0 1 16777215,
      .accountWrite 0 16777215 (some 255) (some 4294967295) none, .eventKinds 0 (List.replicate 28 255),
      .answerFrame 0 .refuse (some offer), .unknownKind 1 35 0, .unknownKind 0 0 0, .malformed 1 34 0,
      .outboundClassDiscarded 7 255 0, .throughUp (st 1) (List.replicate 64 0), .echo (st 255) (List.replicate 16 0),
      .windowEnd 9999, .holdLapse 65535, .passageConfirmTimeout (st 31), .frameGapTimeout, .carrierLost,
      .carrierRegained, .mainPowerLost, .retentionSupplyLow, .loadGapExpiry, .dayBoundary, .allAboardDue,
      .lengthNotReadable, .poll 7, .replyTimeout 7, .badReply 7, .settleIntervalEnd 7, .lineSettingsWaitTimeout 7,
      .alarmInput 3 true].map Instr.wellFormed = List.replicate 31 true := by decide

/-! ## The wires -/

/-- The worked check word of R177: a Status Read with tag 258. -/
theorem test_wire_statusRead :
    framing 0 [0xC3#8, 0x00#8, 0x04#8, 0x01#8, 0x01#8, 0x01#8, 0x02#8, 0xFF#8, 0xF7#8] =
      .complete 1 1 258 [] true [] ∧ readFrame 1 1 258 [] = .statusRead 258 := by decide

/-- The same frame with the kind read as 0 fails its check (R177). -/
theorem test_wire_changed_kind :
    framing 0 [0xC3#8, 0x00#8, 0x04#8, 0x01#8, 0x00#8, 0x01#8, 0x02#8, 0xFF#8, 0xF7#8] =
      .complete 1 0 258 [] false [] := by decide

theorem witness_TrunkFramesAreReadBack :
    (Instr.stationEnroll 65535 7 31 2 (some 64)).wellFormed = true ∧
    frameOf (.stationEnroll 65535 7 31 2 (some 64)) = some (1, 8, 65535) ∧
    (Instr.answerFrame 1 .grant (some offer)).wellFormed = true ∧
    frameOf (.answerFrame 1 .grant (some offer)) = some (5, 0, 1) ∧
    ([1#8] : List Byte)[0]? ≠ some 2#8 := by decide

theorem witness_RepliesAreReadBack :
    (st 31).addr < 256 ∧ 255 < 256 ∧ (Request.presentation 65535 16777215 255 (.sale 999999 2 65535)).fits = true ∧
    1 ≤ ([0#8] : List Byte).length ∧ (List.replicate 64 (0#8 : Byte)).length ≤ 64 ∧
    (List.replicate 16 (0#8 : Byte)).length = 16 := by decide

/-- No bytes are no Reply in form. -/
theorem witness_BadReplies : ¬isReply [] := by
  rintro ⟨a, k, n, x, c, _, _, _, _, _, h⟩
  have h := congrArg List.length h
  simp [replyBytes, oneByte, numBytes] at h

/-- Nor is a Request of a type that R191 does not name (log 35). -/
theorem test_bad_replies :
    let word := sensorByte ⟨true, true, true, true⟩
    readReply 3 [] = .badReply 3 ∧ readReply 3 (replyBytes 1 17 0 word [5#8]) = .badReply 3 ∧
    readReply 3 (replyBytes 1 16 0 word []) = .idle ⟨3, 1⟩ ⟨true, true, true, true⟩ := by decide

/-- A Trunk Status of the Status Read of R177, refused for want of an Idle Command Engine, and a Poll. -/
theorem test_bytes_sent :
    OutFrame.bytes (.status { cls := 1, kind := 1, tag := 258, reception := .accepted, result := some .busy,
                              data := .none }) =
      [0xC3#8, 0#8, 7#8, 3#8, 1#8, 1#8, 2#8, 1#8, 0#8, 1#8, 0xFF#8, 0xF0#8] ∧
    pollBytes { addr := 31, content := .verdict 200 { reason := .granted, holdTag := some 258 }, left := 0,
                taken := true, noticeLive := false } =
      [31#8, 3#8, 200#8, 0#8, 3#8, 1#8, 1#8, 2#8, 0xFF#8, 0x0F#8] := by decide

/-- Names are numbered from 1 (R190): a mark and a session with nothing in them are 1, not an absent field. -/
theorem test_bytes_of_marks_and_sessions :
    [MusterMark.unmarked, .mustered 32].map markBytes = [[1#8], [2#8, 32#8]] ∧
    [none, some (TableName.cabin, LoadMode.purge)].map sessionBytes = [[1#8], [2#8, 3#8, 2#8]] := by decide

/-! ## The queue, power, the trunk -/

theorem witness_ExecutingEngineAnswersBusy :
    receives busy ∧ busy.engine.state = .executing 5 1 ∧ engineFrameOf (.dataFrame 65535 []) = some (2, 0, 65535) ∧
    engineFrameOf (.restart 0 3) = some (1, 34, 0) := ⟨⟨rfl, rfl⟩, rfl, rfl, rfl⟩

theorem witness_NothingIsTakenWithoutPowerOrCarrier :
    ¬receives off ∧ ¬receives { base with trunk := { base.trunk with carrier := false } } ∧
    isGoodFrame (.loadClose 1) = true ∧ isGoodFrame (.outboundClassDiscarded 3 0 0) = true ∧
    off.power.mainOn = false ∧ actsWhileOff .dayBoundary = false := by
  refine ⟨fun h => ?_, fun h => ?_, rfl, rfl, rfl, rfl⟩
  · exact absurd h.1 (by decide)
  · exact absurd h.2 (by decide)

theorem witness_RefusedFramesAreAnswered :
    base.power.mainOn = true ∧ base.trunk.up = true ∧ State.reset.trunk.up = false ∧ receives State.reset :=
  ⟨rfl, rfl, rfl, rfl, rfl⟩

theorem test_refused_frames :
    (out (.unknownKind 9 3 7) State.reset).trunk.outgoing =
      [.status { cls := 9, kind := 3, tag := 7, reception := .unknownKind, result := none, data := .none }] ∧
    kinds (out (.unknownKind 9 3 7) State.reset) = [.trunkUp] ∧
    (out (.frameCheckFailed 9 3 7) State.reset).trunk.up = false := by decide

/-- The one hypothesis of the statements of STATUS_READ, ENTRY_READ, RESTART, LOAD_OPEN, LOAD_CLOSE, PRESENCE_SET,
PORT_CALL_OPEN, PORT_CALL_CLOSE, ACCOUNT_WRITE, STATION_ENROLL, STATION_REMOVE, LINE_TEST_START, LINE_TEST_END and
THROUGH_DOWN. -/
theorem witness_takes : takes base ∧ takes part ∧ receives State.reset := ⟨takes_base, takes_part, rfl, rfl⟩

theorem witness_EmptyQueueStepIsOneMillisecond :
    part.pending = [] ∧ part.power.mainOn = true ∧ off.pending = [] ∧ off.power.mainOn = false := by decide

/-- A millisecond queues the rows that have run out. -/
theorem test_tick :
    part.tick.pending = [.holdLapse 3, .poll 0] ∧ part.tick.timebase = 1 ∧ off.tick.timebase = 0 := by decide

/-- A row that has run out, the row of the frame received, a Restart that is due and a Poll, in this order. -/
theorem test_tick_rows :
    let s := withEngine part fun e => { e with restartOption := some .warm }
    let bytes := [0xC3#8, 0#8, 4#8, 1#8, 1#8, 1#8, 2#8, 0xFF#8, 0xF7#8]
    (s.setTrunk { s.trunk with received := bytes }).tick.pending =
      [.holdLapse 3, .statusRead 258, .restartBegin (Vector.replicate 4 false), .poll 0] := by decide

/-- The running clock one millisecond before a time. -/
def runningTo (s : State) (before boundary : DateTime) : State :=
  withEngine (clocked s before boundary) fun e => { e with voyage := { e.voyage with millis := 999 } }

/-- A running clock that reaches the boundary takes the rollover in the tick: the lapse due in that millisecond carries
the new day, and a profile set before it keeps the rollover. -/
theorem test_running_clock_reaches_the_boundary :
    let t := (runningTo part (clockAt 3 59 59) (clockAt 4 0 0)).tick
    let u := out (.holdLapse 3) (out (.profileSet 1 { profileFields with dayBoundaryHour := 5 }) t)
    t.pending = [.holdLapse 3, .poll 0] ∧ kinds t = [.dayRollover] ∧
    t.engine.voyage.time = some (clockAt 4 0 0) ∧ t.engine.voyage.day = 1 ∧
    t.engine.voyage.boundary = some { clockAt 4 0 0 with day := 2 } ∧
    (u.charge.journal.map fun r => (r.kind, r.time, r.day)) = [(.lapsed, some (clockAt 4 0 0), 1)] ∧
    u.engine.voyage.boundary = some (clockAt 5 0 0) ∧ kinds u = [.dayRollover, .holdLapsed] := by decide

theorem test_running_clock_reaches_the_all_aboard_time :
    let b := { clockAt 4 0 0 with day := 2 }
    kinds (runningTo part (clockAt 17 59 59) b).tick = [.allAboardDue] ∧
    kinds (runningTo part (clockAt 17 59 58) b).tick = [] ∧
    (runningTo part (clockAt 17 59 59) b).tick.pending = [.holdLapse 3, .poll 0] := by decide

theorem test_step_takes_the_front :
    (match step { part with pending := [.holdLapse 3, .poll 0] } with
      | .next t => (t.pending, t.charge.journal.map fun r => r.kind)
      | _ => ([], [])) = ([.poll 0], [.lapsed]) := by decide

theorem witness_RestartBeginRunsTheOption :
    restartIsDue (withEngine base fun e => { e with restartOption := some .cold }) .cold ∧
    restartIsDue (withEngine base fun e => { e with restartOption := some .warm }) .warm ∧
    (∀ k, ¬restartIsDue base k) ∧ ∀ k, ¬restartIsDue (out (.restart 1 1) base) k := by
  refine ⟨⟨rfl, ?_⟩, ⟨rfl, ?_⟩, ?_, ?_⟩
  · intro x h; nomatch h
  · intro x h; nomatch h
  · rintro k ⟨h, _⟩; nomatch h
  · rintro k ⟨_, h⟩; exact h _ (List.mem_singleton.2 rfl) ⟨rfl, rfl, rfl⟩

theorem test_restart :
    res (.restart 1 3) base = some .parameter ∧ (out (.restart 1 2) base).engine.state = .executing 34 1 ∧
    (out (.restartBegin (Vector.replicate 4 true)) (withEngine part fun e => { e with restartOption := some .cold })).cards
      = [] := by decide

theorem test_warm_restart :
    let t := out (.mainPowerApplied true (Vector.replicate 4 true)) { part with power := off.power }
    t.engine.lastRestart = { kind := .warm, cause := .powerReturned } ∧ t.cards = part.cards ∧
    (t.charge.journal.map fun r => r.kind) = [.lapsed] ∧ kinds t = [.restart] := by decide

/-- A part with everything a warm restart touches: a hold, a passage, a boundary passed and a level asserted. -/
def laden : State :=
  let s := clocked part (clockAt 4 0 0) (clockAt 4 0 0)
  { s with
    power := off.power
    passage := { s.passage with
      passages := [{ gate := { line := 0, addr := 3 }, card := some 10, direction := .outbound, left := 5 }] }
    muster := { s.muster with inputs := s.muster.inputs.set 0 { mode := .levelHigh, level := false, seen := false } } }

theorem test_warm_restart_stages :
    let t := out (.mainPowerApplied true (Vector.replicate 4 true)) laden
    t.events.records.map (fun r => (r.kind, r.detail)) =
      [(.dayRollover, some (.dayNumber 1)), (.alarmInput, some (.input 1)), (.musterStarted, some (.input 1)),
        (.restart, some (.passages 1))] ∧
    t.engine.voyage.day = 1 ∧ t.engine.voyage.boundary = some { clockAt 4 0 0 with day := 2 } ∧
    (t.charge.journal.map fun r => (r.number, r.kind, r.day)) = [(1, .lapsed, 0)] ∧
    (t.charge.accounts.map fun a => (a.voyageSpent, a.dailySpent, a.heldTotal)) = [(40, 0, 0)] ∧
    t.passage.port = part.passage.port ∧ t.passage.passages = [] := by decide

/-- Before the boundary and the all-aboard time neither acts; at the all-aboard time the port call is in Last Call; a
boundary still ahead is kept (R192). -/
theorem test_warm_restart_comparisons :
    let at_ (now : DateTime) : State := { clocked part now { clockAt 4 0 0 with day := 2 } with power := off.power }
    let t (now : DateTime) : State := out (.mainPowerApplied true (Vector.replicate 4 true)) (at_ now)
    kinds (t (clockAt 17 59 59)) = [.restart] ∧ kinds (t (clockAt 18 0 0)) = [.allAboardDue, .restart] ∧
    (t (clockAt 18 0 0)).engine.voyage.boundary = some { clockAt 4 0 0 with day := 2 } := by decide

/-- The four cases of the comparisons at a warm restart. -/
theorem witness_ClockComparisons :
    let a := clockAt 18 0 0
    let b := { clockAt 4 0 0 with day := 2 }
    part.passage.port = .inPort a ∧ timeKey a ≤ timeKey a ∧ timeKey (clockAt 17 59 59) < timeKey a ∧
    timeKey b ≤ timeKey b ∧ timeKey { clockAt 3 59 59 with day := 2 } < timeKey b ∧ timeKey a < timeKey b ∧
    part.engine.voyage.time = none ∧ base.passage.port = .atSea := by decide

theorem witness_PowerRowsChooseTheRestart :
    base.power.mainOn = true ∧ off.power.mainOn = false ∧ off.power.retentionValid = true ∧
    (out .retentionSupplyLow off).power.retentionValid = false := by decide

theorem witness_CarrierRowsMoveTheTrunk :
    off.power.mainOn = false ∧ State.reset.power.mainOn = true ∧ State.reset.trunk.up = false ∧
    base.power.mainOn = true ∧ base.trunk.up = true := by decide

theorem test_carrier :
    kinds (out .carrierLost base) = [.trunkDown] ∧ (out .carrierRegained (out .carrierLost base)).trunk.up = false := by
  decide

def receivedBytes (bs : List Byte) (silence : Nat) : State :=
  { base with trunk := { base.trunk with received := bs, silence := silence } }

theorem witness_TrunkBytesAreFramedOrDiscarded :
    base.pending = [] ∧ base.power.mainOn = true ∧ base.trunk.carrier = true ∧ off.power.mainOn = false ∧
    { part with pending := [.poll 0] }.pending ≠ [] ∧ 50 < 51 ∧
    lengthOf [0xC3#8, 0#8, 4#8] = some 4 ∧ behindLength [0xC3#8, 0#8, 4#8] < 4 + 2 ∧
    50 < (receivedBytes [0xC3#8, 0#8, 4#8] 51).trunk.silence ∧ (receivedBytes [0xC3#8, 0#8, 4#8] 50).trunk.silence ≤ 50 ∧
    lengthOf [0xC3#8, 4#8, 4#8] = some 1028 ∧ lengthOf [0xC3#8, 0#8, 3#8] = some 3 ∧
    lengthOf [0xC3#8, 4#8, 5#8] = some 1029 ∧ lengthOf [0xC3#8, 0#8] = none ∧
    0xC3#8 ∈ (receivedBytes [0xC3#8, 0#8] 51).trunk.received := by decide

/-- The bytes of a Status Read with tag 258 (R177). -/
def statusReadBytes : List Byte := [0xC3#8, 0#8, 4#8, 1#8, 1#8, 1#8, 2#8, 0xFF#8, 0xF7#8]

/-- A frame joins the queue with its last byte and is taken before the bytes behind it, so that a loss of carrier after
them discards those alone. -/
theorem test_bytes_are_framed_as_they_arrive :
    let s := statusReadBytes.foldl State.receiveByte (receivedBytes [] 0)
    let t := [0xC3#8, 0#8].foldl State.receiveByte s
    s.pending = [.statusRead 258] ∧ t.pending = [] ∧ t.trunk.outgoing.length = 1 ∧ t.trunk.received = [0xC3#8, 0#8] ∧
    (out .carrierLost t).trunk.received = [] := by decide

/-- A gap of 51 ms discards the unfinished frame in the tick, whatever byte comes next; a frame inside it is
taken. -/
theorem test_a_gap_discards_the_frame :
    let s := (receivedBytes (statusReadBytes.take 8) 49).tick
    let t := (receivedBytes (statusReadBytes.take 8) 50).tick
    (s.receiveByte 0xF7#8).pending = [.statusRead 258] ∧ t.trunk.received = [] ∧ t.pending = [] ∧
    (t.receiveByte 0xF7#8).pending = [] ∧
    (receivedBytes ([0xC3#8, 0#8, 9#8] ++ statusReadBytes) 50).tick.pending = [.statusRead 258] := by decide

/-- Two frames and a damaged one behind them, held together: each is its row, the damaged one on a trunk then Up. -/
theorem test_frames_in_order :
    (receivedBytes (statusReadBytes ++ statusReadBytes.take 8 ++ [0xF6#8, 0xC3#8, 0#8, 3#8]) 0).tick.pending =
      [.statusRead 258, .frameCheckFailed 1 1 258] := by decide

theorem test_unfinished_frames :
    (out .frameGapTimeout (receivedBytes [0xC3#8, 0#8, 4#8] 51)).trunk.received = [] ∧
    (out .frameGapTimeout (receivedBytes [0xC3#8, 0#8, 4#8] 50)).trunk.received = [0xC3#8, 0#8, 4#8] ∧
    (out .lengthNotReadable (receivedBytes [0xC3#8, 0#8, 3#8, 0xC3#8] 0)).trunk.received = [0xC3#8] := by decide

/-! ## The Command Engine's own commands -/

theorem test_statusRead : res (.statusRead 258) part = some .ok ∧ res (.statusRead 1) busy = some .busy := by decide

theorem witness_ClockSetSettlesBoundaryAndAllAboard :
    let s := clocked part (clockAt 3 59 59) (clockAt 4 0 0)
    let a := clockAt 18 0 0
    takes s ∧ validTime { someTime with hour := 24 } = false ∧ validTime someTime = true ∧
    (¬crossed base.engine.voyage someTime ∧ ∀ a, ¬reachesAllAboard base someTime a) ∧
    (crossed s.engine.voyage (clockAt 4 0 0) ∧ ∀ a, ¬reachesAllAboard s (clockAt 4 0 0) a) ∧
    (¬crossed part.engine.voyage a ∧ reachesAllAboard part a a) ∧
    (crossed s.engine.voyage a ∧ reachesAllAboard s a a) := by
  intro s a
  refine ⟨⟨⟨rfl, rfl⟩, rfl⟩, by decide, by decide, ⟨?_, ?_⟩, ⟨⟨rfl, _, rfl, by decide⟩, ?_⟩, ⟨?_, rfl, by decide⟩,
    ⟨rfl, _, rfl, by decide⟩, rfl, by decide⟩
  · rintro ⟨h, _⟩; exact absurd h (by decide)
  · rintro b ⟨h, _⟩; nomatch h
  · rintro b ⟨h, g⟩
    have h : PortState.inPort (clockAt 18 0 0) = .inPort b := h
    injection h with h
    rw [← h] at g
    exact absurd g (by decide)
  · rintro ⟨h, _⟩; exact absurd h (by decide)

theorem test_clockSet :
    res (.clockSet 1 { someTime with hour := 24 }) part = some .parameter ∧
    kinds (out (.clockSet 1 (clockAt 4 0 0)) (clocked part (clockAt 3 59 59) (clockAt 4 0 0))) = [.dayRollover] ∧
    kinds (out (.clockSet 1 (clockAt 3 59 59)) (clocked part (clockAt 3 59 59) (clockAt 4 0 0))) = [] ∧
    kinds (out (.clockSet 1 (clockAt 18 0 0)) part) = [.allAboardDue] := by decide

theorem witness_VoyageClockRunsAndFindsItsBoundary :
    validTime (clockAt 23 59 59) = true ∧ clockAt 23 59 59 ≠ lastTime ∧ 999 ≤ 999 ∧ 23 ≤ 23 ∧
    boundaryAfter 4 (clockAt 4 0 0) = { clockAt 4 0 0 with day := 2 } ∧ boundaryAfter 4 (clockAt 3 59 59) = clockAt 4 0 0 ∧
    timeKey (nextSecond (clockAt 3 59 58)) < timeKey (boundaryAfter 4 (clockAt 3 59 58)) ∧
    timeKey (boundaryAfter 4 (clockAt 3 59 59)) ≤ timeKey (nextSecond (clockAt 3 59 59)) ∧
    nextSecond (clockAt 23 59 59) = boundaryAfter 0 (clockAt 23 59 59) := by decide

theorem witness_ProfileAndVesselCodesAreSet :
    takes base ∧ Profile.default.legal ∧ ({ Profile.default with missLimit := 15, openWindow := 2 } : Profile).legal ∧
    (∀ p : Profile, p.legal → offerOf p ≠ { profileFields with missLimit := 16 }) := by
  refine ⟨takes_base, by unfold Profile.legal; decide, by unfold Profile.legal; decide, fun p h e => ?_⟩
  have e : p.missLimit = 16 := congrArg ProfileOffer.missLimit e
  unfold Profile.legal at h
  omega

theorem test_profile_and_vessel_codes :
    [res (.profileSet 1 { profileFields with missLimit := 15 }) base, res (.profileSet 1 { profileFields with missLimit := 16 }) base,
      res (.profileSet 1 { profileFields with passageFallback := 2 }) base, res (.vesselCodesSet 1 65535 0 65535 0) base,
      res (.vesselCodesSet 1 65535 0 0 1) base] =
      [some .ok, some .parameter, some .parameter, some .parameter, some .ok] ∧
    dat (.profileRead 1) base = .profile Profile.default := by decide

theorem test_load_sessions :
    [res (.loadOpen 1 0 1) part, res (.loadOpen 1 1 3) part, res (.loadOpen 1 3 2) part,
      res (.loadOpen 1 1 1) (out (.loadOpen 1 3 2) part), res (.loadClose 1) part] =
      [some .parameter, some .parameter, some .ok, some .busy, some .notOpen] ∧
    dat (.loadClose 1) (out (.loadOpen 1 3 2) part) = .totals .cabin .purge 0 0 := by decide

theorem test_entryRead :
    [res (.entryRead 1 4 1) part, res (.entryRead 1 1 0) part, res (.entryRead 1 1 11) part,
      res (.entryRead 1 2 1000000) part, res (.entryRead 1 3 10000) part] =
      [some .parameter, some .parameter, some .notFound, some .parameter, some .parameter] ∧
    dat (.entryRead 1 1 10) part = .card guest ∧ dat (.entryRead 1 2 7) part = .account account7 [hold3] ∧
    dat (.entryRead 1 3 1) part = .cabin cabin1 none none := by decide

theorem witness_ProtectionCommandsWithdrawRestoreReport :
    takes base ∧ (up base).cards = [] ∧ takes part ∧ (up part).cards ≠ [] := by
  refine ⟨takes_base, by decide, takes_part, by decide⟩

theorem test_protection :
    [res (.protectionSet 1 0 1 1 none) base, res (.protectionSet 1 1 1 1 (some (2, 1))) base,
      res (.protectionSet 1 2 1 2 (some (1, 16777215))) base,
      res (.protectionSet 1 1 1 2 none) (out (.protectionSet 1 2 1 2 none) base),
      res (.protectionSet 1 2 1 2 (some (1, 1))) (out (.protectionSet 1 2 1 2 none) base),
      res (.protectionRelease 1) part, res (.protectionRelease 1) base] =
      [some .parameter, some .parameter, some .ok, some .protect, some .protect, some .inUse, some .ok] ∧
    dat (.protectionGet 1) part = .protection Protection.default 2 := by decide

def record (k : EventKind) : EventRecord := { kind := k }

theorem witness_EventCommandsReadAndReplaceEnables :
    takes base ∧ 1 ≤ 1 ∧ 8 ≤ 8 ∧ 8 < 9 ∧ (List.replicate 27 1).length ≠ 28 ∧
    (∃ v ∈ (3 :: List.replicate 27 1), v ≠ 1 ∧ v ≠ 2) := by
  refine ⟨takes_base, by decide, by decide, by decide, by decide, 3, by decide, by decide, by decide⟩

theorem test_events :
    dat (.eventRead 1 1) { base with events := { base.events with records := [record .trunkUp, record .trunkDown] } } =
      .events [record .trunkUp] 1 ∧
    [res (.eventRead 1 0) base, res (.eventRead 1 8) base, res (.eventRead 1 9) base,
      res (.eventKinds 1 (List.replicate 28 2)) base, res (.eventKinds 1 (3 :: List.replicate 27 1)) base] =
      [some .parameter, some .ok, some .parameter, some .ok, some .parameter] := by decide

def queueOf (n : Nat) (last : List EventRecord) : EventQueue :=
  { base.events with records := List.replicate n (record .trunkUp) ++ last }

theorem witness_EventArrivalFollowsTheRecordsHeld :
    let full := queueOf 511 [{ kind := .overflow, detail := some (.discarded 65535) }]
    (queueOf 510 []).records.length ≤ 510 ∧ (queueOf 511 []).records.length = 511 ∧
    (queueOf 511 []).enables[EventKind.overflow.index] = true ∧
    (queueOf 511 []).enables[(record .trunkUp).kind.index] = true ∧
    ((queueOf 511 []).enables.set EventKind.overflow.index false)[EventKind.overflow.index] = false ∧
    (∃ rs last, full.records = rs ++ [last] ∧ rs.length = 511 ∧ last.kind = .overflow ∧
      last.detail = some (.discarded 65535)) := by
  refine ⟨by decide +kernel, by decide +kernel, by decide, by decide, by decide,
    List.replicate 511 (record .trunkUp), _, rfl, List.length_replicate, rfl, rfl⟩

/-! ## Port calls, presence, muster -/

theorem test_portCalls :
    let now := clocked base (clockAt 9 0 0) { clockAt 4 0 0 with day := 2 }
    [res (.portCallOpen 1 (clockAt 18 0 0)) base, res (.portCallOpen 1 (clockAt 9 0 0)) now,
      res (.portCallOpen 1 (clockAt 9 0 1)) now, res (.portCallOpen 1 (clockAt 24 0 0)) now, res (.portCallClose 1) base,
      res (.portCallClose 1) part,
      res (.portCallClose 1) { part with passage := { part.passage with
        passages := [{ gate := st 3, card := some 10, direction := .outbound, left := 0 }] } }] =
      [some .parameter, some .parameter, some .ok, some .parameter, some .ok, some .ok, some .busy] := by decide

theorem test_presenceSet :
    [res (.presenceSet 1 0 1 5) part, res (.presenceSet 1 10 4 5) part, res (.presenceSet 1 11 1 5) part,
      res (.presenceSet 1 10 2 4) part, res (.presenceSet 1 10 2 5) part] =
      [some .parameter, some .parameter, some .notFound, some .stale, some .ok] ∧
    (out (.presenceSet 1 10 2 5) part).passage.counters.guest = ⟨0, 1, 0⟩ ∧
    dat (.presenceSet 1 10 2 4) part = .stamp 4 := by decide

theorem witness_CountAndPageReadsAnswerAndChangeNothing :
    takes part ∧ 1 ≤ 1 ∧ 16777215 ≤ 16777215 ∧ 16777215 < 16777216 := ⟨takes_part, by decide, by decide, by decide⟩

theorem test_counts_and_pages :
    dat (.ashoreRead 1 1) part = .page [20] none 1 ∧ dat (.ashoreRead 1 21) part = .page [] none 1 ∧
    dat (.unaccountedRead 1 10) part = .page [10] none 1 ∧ res (.unaccountedRead 1 0) part = some .parameter ∧
    res (.ashoreRead 1 16777216) part = some .parameter ∧
    dat (.counterRead 1) part = .counters part.passage.counters 0 0 part.passage.port 0 ∧
    res (.musterRollRead 1) part = some .ok := by decide

def alert : State := { part with muster := { part.muster with state := .alert } }

/-- Input 1 with a mode and a level. -/
def withInput (s : State) (m : AlarmMode) (level : Bool) : State :=
  { s with muster := { s.muster with inputs := s.muster.inputs.set 0 { mode := m, level := level, seen := false } } }

theorem witness_MusterStartAndMusterEnd :
    (up part).muster.state = .off ∧ (up alert).muster.state ≠ .off ∧
    (∃ i : Fin 4, asserted (up (withInput alert .levelHigh true)).muster.inputs[i]) ∧
    (¬∃ i : Fin 4, asserted (up (withInput alert .levelHigh false)).muster.inputs[i]) := by
  refine ⟨by decide, by decide, ⟨0, Or.inl ⟨by decide, by decide⟩⟩, ?_⟩
  unfold asserted
  decide

theorem test_muster :
    [res (.musterStart 1 0) part, res (.musterStart 1 1) part, res (.musterStart 1 1) (out (.musterStart 1 1) part),
      res (.musterStart 1 2) (out (.musterStart 1 1) part), res (.musterStart 1 2) alert, res (.musterEnd 1) part,
      res (.musterEnd 1) (withInput alert .levelHigh true), res (.musterEnd 1) (withInput alert .levelLow true)] =
      [some .parameter, some .ok, some .parameter, some .ok, some .parameter, some .ok, some .busy, some .ok] := by
  decide

theorem witness_AlarmInputsFollowTheirModes :
    takes part ∧ asserted { part.muster.inputs[(0 : Fin 4)] with mode := .levelLow } ∧
    ¬asserted { part.muster.inputs[(0 : Fin 4)] with mode := .levelHigh } ∧
    part.power.mainOn = true ∧ part.muster.inputs[(3 : Fin 4)].level = false ∧
    (withInput part .risingEdge false).muster.inputs[(0 : Fin 4)].mode = .risingEdge ∧
    (withInput part .levelLow true).muster.inputs[(0 : Fin 4)].level = true := by
  refine ⟨takes_part, Or.inr ⟨by decide, by decide⟩, ?_, by decide, by decide, by decide, by decide⟩
  unfold asserted
  decide

theorem test_alarms :
    [res (.alarmConfig 1 0 1) part, res (.alarmConfig 1 4 5) part, res (.alarmConfig 1 5 1) part,
      res (.alarmConfig 1 1 6) part] = [some .parameter, some .ok, some .parameter, some .parameter] ∧
    (out (.alarmConfig 1 1 5) part).muster.state = .alert ∧ (out (.alarmConfig 1 1 4) part).muster.state = .off ∧
    kinds (out (.alarmInput 0 true) (withInput part .risingEdge false)) = [.alarmInput, .musterStarted] ∧
    kinds (out (.alarmInput 0 true) (withInput part .fallingEdge false)) = [] ∧
    (out (.alarmStatus 1) (out (.alarmInput 0 true) part)).muster.inputs[(0 : Fin 4)].seen = false ∧
    (out (.alarmInput 0 true) part).muster.inputs[(0 : Fin 4)].seen = true := by decide

/-! ## Accounts, holds, the journal -/

theorem test_accountWrite :
    [res (.accountWrite 1 0 (some 1) none none) part, res (.accountWrite 1 7 none none none) part,
      res (.accountWrite 1 7 (some 4) none none) part, res (.accountWrite 1 8 (some 1) none none) part,
      res (.accountWrite 1 7 none (some 49) none) part, res (.accountWrite 1 7 none (some 50) none) part,
      res (.accountWrite 1 7 none none (some 29)) part, res (.accountWrite 1 7 (some 3) none none) part,
      res (.accountWrite 1 7 (some 2) none none) part] =
      [some .parameter, some .parameter, some .parameter, some .notFound, some .parameter, some .ok, some .parameter,
        some .inUse, some .ok] := by decide

/-- The part with a journal of record 1. -/
def journalled : State := out (.holdLapse 3) part

theorem witness_JournalReadAndRelease :
    takes journalled ∧ 1 ≤ 1 ∧ 4294967295 ≤ 4294967295 ∧ 16 ≤ 16 ∧ 16 < 17 ∧ 4294967295 < 4294967296 ∧
    (up journalled).charge.lastNumber < 2 ∧ 1 ≤ (up journalled).charge.lastNumber := by
  refine ⟨⟨⟨rfl, rfl⟩, rfl⟩, by decide, by decide, by decide, by decide, by decide, by decide, by decide⟩

theorem test_journal :
    [res (.journalRead 1 0 1) journalled, res (.journalRead 1 1 16) journalled, res (.journalRead 1 1 17) journalled,
      res (.journalRelease 1 0) journalled, res (.journalRelease 1 2) journalled] =
      [some .parameter, some .ok, some .parameter, some .parameter, some .parameter] ∧
    dat (.journalRelease 1 1) journalled = .released 1 0 ∧ dat (.journalRead 1 2 1) journalled = .journal [] 1 1 := by
  decide

/-- The verdict and the state of an Authorize of the guest at the Bar. -/
def sale (amount : Nat) : Presentation :=
  { station := st 2, vessel := 9, card := 10, issue := 1, part := .authorize amount .ordinary 1 }

theorem witness_AuthorizeRunsItsChecks :
    let a2 := { account7 with state := .suspended }
    guest.data.account.bind part.account? = some account7 ∧ guest.data.account.bind base.account? = none ∧
    part.muster.state = .off ∧ alert.muster.state ≠ .off ∧ a2.state ≠ .opened ∧ account7.state = .opened ∧
    1 ≤ 30 ∧ 30 ≤ 999999 ∧ 999999 < 1000000 ∧ guest.presence ≠ .ashore ∧ officer.presence = .ashore ∧
    (terminalHolds part (st 2)).length < part.engine.profile.terminalHoldLimit ∧
    (accountHolds part 7).length < 8 ∧ part.charge.holds.length < 256 ∧ slotsInUse part < 2048 ∧
    account7.voyageSpent + account7.heldTotal + 30 ≤ account7.voyageCap ∧
    account7.dailySpent + account7.heldTotal + 30 ≤ account7.dailyCap ∧
    account7.dailyCap < account7.dailySpent + account7.heldTotal + 31 ∧
    account7.voyageCap < account7.voyageSpent + account7.heldTotal + 51 := by decide

theorem test_authorize :
    [0, 30, 31, 51, 999999, 1000000].map (fun n => (decideJob part (sale n) guest).2.reason) =
      [.parameter, .granted, .dailyCap, .cap, .cap, .parameter] ∧
    (decideJob part (sale 30) guest).2.holdTag = some 4 ∧ (decideJob alert (sale 30) guest).2.reason = .barsClosed ∧
    (decideJob part (sale 1) officer).2.reason = .presence ∧
    (decideJob part { sale 1 with part := .authorize 1 .restricted 1 } (card 11 .junior .aboard)).2.reason = .age := by
  decide

theorem test_authorize_limits :
    let holds (n : Nat) (d : Bool) : State := { part with charge := { part.charge with
      holds := List.replicate n { hold3 with detached := d } } }
    (decideJob (holds 2 false) (sale 1) guest).2.reason = .terminalLimit ∧
    (decideJob (holds 7 true) (sale 1) guest).2.reason = .granted ∧
    (decideJob (holds 8 true) (sale 1) guest).2.reason = .holdLimit ∧
    (decideJob { part with charge := { part.charge with lastNumber := 4294965248 } } (sale 1) guest).2.reason =
      .journalFull ∧
    (decideJob { part with charge := { part.charge with lastNumber := 4294965247 } } (sale 1) guest).2.reason =
      .granted := by decide

theorem witness_HoldsEndWithOneRecord :
    part.hold? 3 = some hold3 ∧ part.hold? 4 = none ∧ hold3.station = st 2 ∧ hold3.detached = false ∧
    hold3.station ≠ st 1 ∧ hold3.amount < 11 ∧ 10 ≤ hold3.amount ∧ part.power.mainOn = true ∧ hold3.left = 0 ∧
    ({ hold3 with left := 1 } : Hold).left ≠ 0 := by decide

theorem test_holds_end :
    (decideComplete part (st 2) 3 11).2 = .parameter ∧ (decideComplete part (st 2) 3 10).2 = .granted ∧
    (decideComplete part (st 1) 3 1).2 = .late ∧ (decideCancel part (st 2) 4).2 = .late ∧
    ((decideComplete part (st 2) 3 0).1.charge.journal.map fun r => (r.kind, r.amount)) = [(.completed, 0)] ∧
    ((decideCancel part (st 2) 3).1.charge.accounts.map fun a => (a.voyageSpent, a.heldTotal)) = [(40, 0)] ∧
    kinds (out (.holdLapse 3) part) = [.holdLapsed] ∧ kinds (out (.holdLapse 4) part) = [] := by decide

/-! ## Loads -/

def sessionOf (t m : Nat) : State := out (.loadOpen 1 t m) part

theorem witness_DataFramesSettleEntriesInOrder :
    takes (sessionOf 1 1) ∧ takes part ∧
    permitted (out (.protectionSet 1 2 2 1 none) part).engine.protection .merge = false ∧
    permitted (out (.protectionSet 1 2 2 1 none) part).engine.protection .purge = false := by
  refine ⟨⟨⟨rfl, rfl⟩, rfl⟩, takes_part, by decide, by decide⟩

/-- Two Purge entries, of the officer's card and of the guest's, taken in a session of the Card Table. -/
def loadingPart : State := out (.dataFrame 9 [2#8, 0#8, 0#8, 20#8, 0#8, 0#8, 10#8]) (sessionOf 1 2)

/-- The data of the last Status awaiting transmission. -/
def lastDat (s : State) : StatusData :=
  match s.trunk.outgoing.getLast? with
  | some (.status x) => x.data
  | _ => .none

theorem test_dataFrame :
    res (.dataFrame 1 [1#8, 0#8, 0#8, 20#8]) part = some .order ∧
    dat (.dataFrame 1 [1#8, 0#8, 0#8, 20#8]) (sessionOf 1 2) = .entries [.ok] ∧
    (out (.dataFrame 1 [1#8, 0#8, 0#8, 20#8]) (sessionOf 1 2)).cards = [guest] ∧
    res (.dataFrame 1 [0#8]) (sessionOf 1 2) = none ∧
    res (.dataFrame 1 (17#8 :: List.replicate 51 1#8)) (sessionOf 1 2) = none := by decide

/-- One entry in the event of the frame, the next in a millisecond, and a hold that lapses between them (log 34). -/
theorem test_dataFrame_entry_by_entry :
    loadingPart.engine.state = .loading ⟨9, .purge, [.cardPurge 10], [.ok]⟩ ∧ loadingPart.cards = [guest] ∧
    lastDat loadingPart.tick = .entries [.ok, .inUse] ∧ loadingPart.tick.engine.state = .idle ∧
    lastDat (out (.holdLapse 3) loadingPart).tick = .entries [.ok, .ok] ∧
    (out (.holdLapse 3) loadingPart).tick.cards = [] ∧
    res (.loadClose 1) loadingPart = some .busy := by decide

/-- Nor is a Cabin Write taken between two entries (log 36). -/
theorem test_dataFrame_cabinWrite_between_entries :
    res (.cabinWrite 1 1 (some 1) none none) loadingPart = some .busy ∧
    (out (.cabinWrite 1 1 (some 1) none none) loadingPart).cabins = part.cabins := by decide

/-- A warm restart between two entries: the one before it stays applied, the one after it is never applied, and no
Status is handed (R175). -/
theorem test_dataFrame_cut_by_a_warm_restart :
    let t := out (.mainPowerApplied true (Vector.replicate 4 false)) (out .mainPowerLost loadingPart)
    t.cards = [guest] ∧ t.engine.state = .idle ∧ t.engine.session = none ∧ t.trunk.outgoing = [] ∧
    t.tick.cards = [guest] := by decide

theorem test_dataFrame_holds_off_its_expiry :
    let s := withEngine loadingPart fun e => { e with session := e.session.map fun x => { x with gap := 0 } }
    kinds (out .loadGapExpiry s) = [] ∧ (out .loadGapExpiry s).engine.session.isSome = true := by decide

/-- Three entries of which the last two are still to be settled, alone. -/
theorem witness_EntriesAloneAreSettledInOrder :
    ([.cardPurge 20, .cardPurge 10] : List DataEntry) ≠ [] ∧
    (withEngine part fun e => { e with state := .loading ⟨1, .purge, [.cardPurge 20, .cardPurge 10], []⟩ }).engine.state =
      .loading ⟨1, .purge, [.cardPurge 20, .cardPurge 10], []⟩ := by decide

theorem witness_OfferedCardIsReadWhenWellFormed :
    readCard offer = some { guest.data with cabins := [1, 9999], zones := [2, 16] } ∧
    readCard { offer with cabins := [1, 1] } = none ∧ readCard { offer with cabins := [10000] } = none ∧
    readCard { offer with search := 1 } = none ∧ (readCard { offer with search := 1, cls := 5 }).isSome = true ∧
    readCard { offer with musterStation := 33 } = none ∧ readCard { offer with cls := 6 } = none := by decide

/-- The protected range 10 to 12, in force. -/
def fencedPart : State := out (.protectionSet 1 1 1 2 (some (10, 12))) part

theorem witness_CardEntriesAreMergedAndPurged :
    part.engine.protection.load = true ∧ part.engine.protection.purge = true ∧
    (∀ d, readCard { offer with number := 0 } ≠ some d) ∧
    (∃ d, readCard offer = some d ∧ part.card? d.number = some guest) ∧
    (∃ d, readCard { offer with number := 12 } = some d ∧ part.card? d.number = none ∧ fenced fencedPart d.number) ∧
    ¬fenced part 10 ∧ ¬fenced fencedPart 13 ∧ cardInUse part 10 ∧ ¬cardInUse part 20 ∧ part.card? 20 = some officer ∧
    part.cards.length < 8192 ∧ readPresence 4 = none ∧ readPresence 3 = some .unknown := by
  refine ⟨by decide, by decide, ?_, ⟨_, rfl, by decide⟩, ⟨_, rfl, by decide, by decide, 10, 12, rfl, by decide, by decide⟩,
    ?_, ?_, ⟨hold3, List.mem_singleton.2 rfl, rfl⟩, ?_, by decide, by decide, by decide, by decide⟩
  · intro d h; nomatch h
  · rintro ⟨_, a, b, h, _⟩; exact nomatch h
  · rintro ⟨_, a, b, h, h1, h2⟩
    have h : some ((10, 12) : Nat × Nat) = some (a, b) := h
    injection h with h; injection h with ha hb; omega
  · rintro ⟨h, hm, hc⟩
    rw [List.mem_singleton.1 hm] at hc; exact absurd hc (by decide)

theorem test_card_entries :
    (settleEntry part .merge (.cardMerge { offer with number := 0 })).2 = .parameter ∧
    (settleEntry fencedPart .merge (.cardMerge offer)).2 = .protect ∧
    (settleEntry part .merge (.cardMerge { offer with account := none })).2 = .inUse ∧
    (settleEntry part .merge (.cardMerge { offer with number := 12, presence := some 4 })).2 = .parameter ∧
    (settleEntry part .merge (.cardMerge { offer with number := 10, presence := some 4 })).2 = .ok ∧
    (settleEntry part .merge (.cardMerge { offer with number := 12, presence := none })).1.passage.counters.guest =
      ⟨1, 0, 1⟩ ∧
    (settleEntry part .purge (.cardPurge 16777216)).2 = .parameter ∧
    (settleEntry part .purge (.cardPurge 11)).2 = .notFound ∧ (settleEntry part .purge (.cardPurge 10)).2 = .inUse ∧
    (settleEntry part .purge (.cardPurge 20)).2 = .ok := by decide

def accountOffer : AccountOffer :=
  { number := 7, state := 1, voyageCap := 50, dailyCap := 30, voyageSpent := none, dailySpent := none }

theorem witness_AccountEntriesKeepCapsAndHolds :
    part.engine.protection.load = true ∧ readAccountState accountOffer.state = some .opened ∧
    1 ≤ accountOffer.number ∧ accountOffer.voyageCap ≤ 99999999 ∧ (∀ n ∈ (some 99999999 : Option Nat), n ≤ 99999999) ∧
    (∃ n ∈ (some 100000000 : Option Nat), 99999999 < n) ∧ readAccountState 4 = none := by decide

theorem test_account_entries :
    (settleEntry part .merge (.accountMerge accountOffer)).2 = .ok ∧
    (settleEntry part .merge (.accountMerge { accountOffer with voyageCap := 49 })).2 = .parameter ∧
    (settleEntry part .merge (.accountMerge { accountOffer with dailySpent := some 21 })).2 = .parameter ∧
    (settleEntry part .merge (.accountMerge { accountOffer with state := 3 })).2 = .inUse ∧
    (settleEntry part .merge (.accountMerge { accountOffer with number := 999999 })).2 = .ok ∧
    (settleEntry part .purge (.accountPurge 7)).2 = .inUse ∧ (settleEntry part .purge (.accountPurge 8)).2 = .notFound ∧
    (settleEntry part .purge (.accountPurge 1000000)).2 = .parameter := by decide

def cabinOffer : CabinOffer :=
  { number := 1, zone := 2, pattern := 11, mask := 11, tamper := 2, lock := some (0, 1), openMask := none }

theorem witness_CabinEntriesAreInsertedRewrittenRemoved :
    part.engine.protection.load = true ∧ part.engine.protection.purge = true ∧
    readCabin { cabinOffer with zone := 17 } = none ∧ readCabin cabinOffer = some cabin1.data ∧
    isLock part (st 1) ∧ ¬isLock part (st 2) ∧ part.cabinAt? (st 1) = some cabin1 ∧ part.cabin? 1 = some cabin1 ∧
    part.cabin? 9999 = none ∧ part.cabins.length < 1024 := by
  refine ⟨by decide, by decide, by decide, by decide, ⟨_, rfl, rfl⟩, ?_, by decide, by decide, by decide, by decide⟩
  rintro ⟨r, h, k⟩
  have h : some (enrolled 2 (.bar 5) .present) = some r := h
  injection h with h; rw [← h] at k; exact absurd k (by decide)

theorem test_cabin_entries :
    (settleEntry part .merge (.cabinMerge { cabinOffer with number := 9999 })).2 = .parameter ∧
    (settleEntry part .merge (.cabinMerge { cabinOffer with lock := some (0, 2) })).2 = .parameter ∧
    (settleEntry part .merge (.cabinMerge { cabinOffer with number := 9999, lock := none })).2 = .ok ∧
    (settleEntry part .merge (.cabinMerge { cabinOffer with mask := 0 })).2 = .ok ∧
    (settleEntry part .purge (.cabinPurge 1)).2 = .ok ∧ (settleEntry part .purge (.cabinPurge 2)).2 = .notFound ∧
    (settleEntry part .purge (.cabinPurge 10000)).2 = .parameter := by decide

/-- Every form of entry, at the ends of its fields (R163-R166). -/
theorem witness_DataEntriesAreReadBack :
    entryFits (.cardMerge offer) ∧ entryFits (.cardPurge 16777215) ∧
    entryFits (.accountMerge { accountOffer with voyageSpent := some 4294967295 }) ∧ entryFits (.accountPurge 0) ∧
    entryFits (.cabinMerge { cabinOffer with lock := some (255, 255) }) ∧ entryFits (.cabinPurge 65535) ∧
    (entryForm (.cabinMerge cabinOffer)).1 = .cabin ∧ (entryForm (.cabinMerge cabinOffer)).2.1 = .merge ∧
    1 ≤ [DataEntry.cabinMerge cabinOffer].length ∧ (List.replicate 16 (DataEntry.cabinPurge 1)).length ≤ 16 ∧
    ([0#8] : List Byte) ≠ [] ∧ 17 ≤ 255 ∧ 255 < 256 := by
  simp only [entryFits]
  decide

theorem test_data_entry_bytes :
    readEntries .cabin .merge [1#8, 0#8, 1#8, 2#8, 11#8, 11#8, 2#8, 1#8, 0#8, 1#8, 0#8] =
      some [.cabinMerge cabinOffer] ∧
    readEntries .account .merge [1#8, 0#8, 0#8, 7#8, 1#8, 0#8, 0#8, 0#8, 50#8, 0#8, 0#8, 0#8, 30#8, 0#8, 0#8] =
      some [.accountMerge accountOffer] ∧
    readEntries .cabin .purge [1#8, 0#8, 1#8, 0#8] = none := by decide

theorem test_cabin_ranges :
    (readCabin { cabinOffer with number := 9999, zone := 16, pattern := 15, mask := 15, openMask := some 12 }).isSome =
      true ∧
    [{ cabinOffer with number := 0 }, { cabinOffer with number := 10000 }, { cabinOffer with zone := 0 },
      { cabinOffer with pattern := 16 }, { cabinOffer with mask := 16 }, { cabinOffer with tamper := 3 },
      { cabinOffer with openMask := some 16 }, { cabinOffer with openMask := some 1 },
      { cabinOffer with openMask := some 2 }, { cabinOffer with lock := some (8, 1) },
      { cabinOffer with lock := some (0, 32) }].map readCabin = List.replicate 11 none := by decide

/-! ## Reader lines -/

def l0 : LineNo := 0

/-- The part with line 0 changed. -/
def lineAs (f : Line → Line) : State := { part with lines := part.lines.set 0 (f line0) }

/-- The part with a Poll on the wire to a station, carrying a content. -/
def polled (a : Nat) (c : PollContent) : State :=
  lineAs fun x => { x with round := some [], exchange := some { addr := a, content := c, left := 0, taken := true,
                                                                noticeLive := true } }

/-- A station record of line 0 put in place. -/
def stationAs (s : State) (r : StationRec) : State := s.setStation 0 r

def lockRec : StationRec := enrolled 1 .lock .present
def word : Sensors := ⟨true, true, false, true⟩

theorem witness_PollCarriesTheFirstCase :
    part.power.mainOn = true ∧ (part.line l0).exchange = none ∧ (part.line l0).state = .running ∧
    (nextRound (part.line l0)).1 = [1, 2, 3, 4, 5] ∧ (polled 1 .plain).line l0 ≠ part.line l0 ∧
    ((polled 1 .plain).line l0).exchange ≠ none ∧ (part.line 1).state = .stopped ∧
    leftInRound (lineAs fun x => { x with round := some [5, 31] }).lines[(0 : Fin 8)] = [5] := by decide

theorem test_poll :
    (((out (.poll 0) part).line l0).exchange.map fun e => (e.addr, e.content)) = some (1, .plain) ∧
    (((out (.poll 0) (stationAs part { lockRec with notice := some { reason := .busy, number := some 3 } })).line
      l0).exchange.map fun e => e.content) = some (.notice { reason := .busy, number := some 3 }) := by decide

theorem witness_MissesLeadToAbsence :
    part.power.mainOn = true ∧ (part.line l0).exchange = none ∧ ((polled 1 .plain).line l0).exchange ≠ none ∧
    (∃ e, ((polled 1 .plain).line l0).exchange = some e ∧ e.left = 0 ∧ e.taken = true ∧ e.addr ≠ (st 2).addr) ∧
    (polled 31 .plain).station? (st 31) = none ∧
    Instr.echo (st 1) [] ∈ [Instr.idle (st 1) word, .request (st 1) word 0 (.cancel 1), .acknowledge (st 1) word 0,
      .throughUp (st 1) [], .echo (st 1) []] := by
  refine ⟨by decide, by decide, by decide, ⟨_, rfl, rfl, rfl, by decide⟩, by decide, by decide⟩

/-- The third miss in a row makes a station Absent. -/
theorem test_misses :
    kinds (out (.badReply 0) (stationAs (polled 1 .plain) { lockRec with misses := 2 })) = [.stationAbsent] ∧
    kinds (out (.badReply 0) (stationAs (polled 1 .plain) { lockRec with misses := 1 })) = [] ∧
    ((out (.replyTimeout 0) (polled 1 .plain)).station? (st 1)).map (fun r => r.misses) = some 1 ∧
    ((out (.idle (st 2) word) (polled 1 .plain)).station? (st 1)).map (fun r => r.misses) = some 1 := by decide

def granted : Verdict := { reason := .granted, holdTag := none }

/-- Station 1 with an open request of number 8 whose verdict is Ready, and the Poll that carries it. -/
def delivering : State :=
  stationAs (polled 1 (.verdict 8 granted))
    { lockRec with openRequest := some { number := 8, request := .cancel 1, state := .ready granted } }

theorem witness_GoodRepliesAreTaken :
    (∃ r e, awaits (polled 1 .plain) (st 1) r e ∧ r.state ≠ .outOfService ∧ r.openRequest = none ∧
      ∀ n v, e.content ≠ .verdict n v) ∧
    (∃ r e o, awaits delivering (st 1) r e ∧ r.state ≠ .outOfService ∧ (∃ n v, e.content = .verdict n v) ∧
      r.openRequest = some o ∧ o.number = 8 ∧ o.number ≠ 9) := by
  refine ⟨⟨lockRec, _, ⟨rfl, rfl, rfl, rfl, rfl⟩, by decide, rfl, fun n v h => nomatch h⟩,
    ⟨_, _, _, ⟨rfl, rfl, rfl, rfl, rfl⟩, by decide, ⟨8, granted, rfl⟩, rfl, rfl, by decide⟩⟩

theorem test_replies :
    ((out (.acknowledge (st 1) word 8) delivering).station? (st 1)).map (fun r => r.openRequest) = some none ∧
    ((out (.acknowledge (st 1) word 9) delivering).station? (st 1)).bind (fun r => r.openRequest.map OpenRequest.state) =
      some (.offered granted) ∧
    ((out (.request (st 1) word 9 (.cancel 1)) delivering).station? (st 1)).bind (fun r => r.notice) =
      some { reason := .busy, number := some 9 } ∧
    ((out (.request (st 1) word 9 (.presentation 9 10 1 (.gesture 1))) (polled 1 .plain)).station? (st 1)).bind
      (fun r => r.openRequest.map OpenRequest.state) = some (.ready granted) ∧
    (out (.idle (st 1) word) (polled 1 .plain)).cabins.map (fun c => c.lastWord) = [some word] := by decide

def inTest (a : Nat) (k : StationKind) : State :=
  stationAs (lineAs fun x => { x with state := .test, round := some [], exchange := (some
    { addr := a, content := .test, left := 0, taken := true, noticeLive := true }) }) (enrolled a k .outOfService)

def echoBytes : List Byte :=
  [0x00#8, 0xFF#8, 0x55#8, 0xAA#8, 0x0F#8, 0xF0#8, 0x33#8, 0xCC#8,
   0x01#8, 0x02#8, 0x04#8, 0x08#8, 0x10#8, 0x20#8, 0x40#8, 0x80#8]

theorem witness_ThroughUpAndTestReplies :
    (∃ e, awaits (polled 5 .plain) (st 5) (enrolled 5 .through .present) e) ∧
    (∃ e, awaits (inTest 1 .lock) (st 1) (enrolled 1 .lock .outOfService) e) ∧
    (∃ e, awaits (polled 1 .plain) (st 1) lockRec e) ∧ lockRec.kind ≠ .through ∧
    1 ≤ (List.replicate 64 (0#8 : Byte)).length ∧ 64 < (List.replicate 65 (0#8 : Byte)).length ∧
    part.trunk.up = true ∧ (out .carrierLost part).trunk.up = false := by
  refine ⟨⟨_, rfl, rfl, rfl, rfl, rfl⟩, ⟨_, rfl, rfl, rfl, rfl, rfl⟩, ⟨_, rfl, rfl, rfl, rfl, rfl⟩, by decide, by decide,
    by decide, rfl, by decide⟩

theorem test_through_and_echo :
    (out (.throughUp (st 5) [7#8]) (polled 5 .plain)).trunk.outgoing = [.throughUp (st 5) [7#8]] ∧
    ((out (.throughUp (st 1) [7#8]) (polled 1 .plain)).station? (st 1)).map (fun r => r.misses) = some 1 ∧
    ((out (.echo (st 1) echoBytes) (inTest 1 .lock)).station? (st 1)).map (fun r => (r.echoGood, r.echoFailed)) =
      some (1, 0) ∧
    ((out (.echo (st 1) [0#8]) (inTest 1 .lock)).station? (st 1)).map (fun r => (r.echoGood, r.echoFailed)) =
      some (0, 1) := by decide

theorem test_enrolment :
    [res (.stationEnroll 1 8 1 1 none) part, res (.stationEnroll 1 7 32 1 none) part,
      res (.stationEnroll 1 7 31 2 none) part, res (.stationEnroll 1 7 31 2 (some 65)) part,
      res (.stationEnroll 1 7 31 2 (some 64)) part, res (.stationEnroll 1 7 1 1 (some 1)) part,
      res (.stationEnroll 1 0 1 1 none) part, res (.stationRemove 1 0 0) part, res (.stationRemove 1 0 6) part,
      res (.stationRemove 1 0 1) part, res (.stationRemove 1 0 1) delivering, res (.stationRemove 1 0 2) part] =
      [some .parameter, some .parameter, some .parameter, some .parameter, some .ok, some .parameter, some .inUse,
        some .parameter, some .notFound, some .inUse, some .inUse, some .ok] ∧
    (out (.stationRemove 1 0 2) part).charge.holds.map (fun h => h.detached) = [true] ∧
    ((out (.stationEnroll 1 7 31 1 none) part).line 7).state = .running := by decide

theorem test_throughDown :
    [res (.throughDown 1 0 5 [1#8]) busy, res (.throughDown 1 0 5 [1#8]) part, res (.throughDown 1 0 1 [1#8]) part,
      res (.throughDown 1 0 5 []) part, res (.throughDown 1 0 5 (List.replicate 64 1#8)) part,
      res (.throughDown 1 0 5 (List.replicate 65 1#8)) part,
      res (.throughDown 1 0 5 [1#8]) (stationAs part { enrolled 5 .through .absent with queue := List.replicate 4 [1#8] })] =
      [some .parameter, some .ok, some .parameter, some .parameter, some .ok, some .parameter, some .full] := by decide

def settlingPart : State := lineAs fun x => { x with state := .settling }
def waitingPart : State :=
  lineAs fun x => { x with wait := some { settings := LineSettings.default, left := 0 } }

theorem witness_LineSettingsTakeHoldWhenClear :
    takes part ∧ (settlingPart.line l0).state = .settling ∧ (settlingPart.line l0).settleLeft = 0 ∧
    (part.line l0).state ≠ .settling ∧ (∃ w, (waitingPart.line l0).wait = some w ∧ w.left = 0) ∧
    (∀ w, (part.line l0).wait = some w → w.left ≠ 0) := by
  refine ⟨takes_part, by decide, by decide, by decide, ⟨_, rfl, rfl⟩, ?_⟩
  intro w h
  have h : (none : Option LineWait) = some w := h
  nomatch h

theorem test_lineSettings :
    [res (.lineSettings 1 8 1 10 50) part, res (.lineSettings 1 1 5 10 50) part, res (.lineSettings 1 1 1 1 50) part,
      res (.lineSettings 1 1 4 2 500) part, res (.lineSettings 1 1 4 51 500) part, res (.lineSettings 1 1 4 50 501) part,
      res (.lineSettings 1 0 1 10 50) (lineAs fun x => { x with state := .test }), res (.lineSettings 1 0 1 10 50) part,
      res (.settleIntervalEnd 0) (withEngine settlingPart fun e => { e with state := .executing 5 1 }),
      res (.lineSettingsWaitTimeout 0) (withEngine waitingPart fun e => { e with state := .executing 5 1 })] =
      [some .parameter, some .parameter, some .parameter, some .ok, some .parameter, some .parameter, some .busy, none,
        some .ok, some .busy] ∧
    (out (.lineSettings 1 0 1 10 50) part).engine.state = .executing 5 1 ∧
    ((out (.lineSettings 1 0 1 10 50) delivering).line l0).wait.isSome = true := by decide

theorem test_lineTest :
    [res (.lineTestStart 1 8) part, res (.lineTestStart 1 1) part, res (.lineTestStart 1 0) delivering,
      res (.lineTestStart 1 0) part, res (.lineTestEnd 1 0) part] =
      [some .parameter, some .parameter, some .busy, some .ok, some .parameter] ∧
    dat (.lineTestEnd 1 0) (out (.echo (st 1) echoBytes) (inTest 1 .lock)) =
      .echoes [(1, 1, 0), (2, 0, 0), (3, 0, 0), (4, 0, 0), (5, 0, 0)] := by decide

/-! ## Cabins -/

theorem witness_CabinWriteAppliesItsParts :
    takes part ∧ (∃ v ∈ (some (16, 0) : Option (Nat × Nat)), 16 ≤ v.1 ∨ 16 ≤ v.2) ∧
    (∀ v ∈ (some (15, 15) : Option (Nat × Nat)), v.1 < 16 ∧ v.2 < 16) ∧ (∀ v ∈ (some 2 : Option Nat), v = 1 ∨ v = 2) ∧
    (∃ v ∈ (some 3 : Option Nat), v ≠ 1 ∧ v ≠ 2) ∧ (up part).cabin? 9999 = none ∧ (up part).cabin? 1 = some cabin1 ∧
    readSensorSet 15 = some ⟨true, true, true, true⟩ := by
  refine ⟨takes_part, by decide, by decide, by decide, by decide, by decide, by decide, by decide⟩

theorem test_cabinWrite :
    [res (.cabinWrite 1 0 (some 1) none none) part, res (.cabinWrite 1 1 none none none) part,
      res (.cabinWrite 1 1 (some 3) none none) part, res (.cabinWrite 1 1 none (some (16, 0)) none) part,
      res (.cabinWrite 1 9999 (some 1) none none) part, res (.cabinWrite 1 1 (some 1) (some (15, 15)) (some 1)) part] =
      [some .parameter, some .parameter, some .parameter, some .parameter, some .notFound, some .ok] ∧
    (out (.cabinWrite 1 1 (some 1) none none) part).cabins.map (fun c => c.lockState) = [.lockedOut .command] ∧
    kinds (out (.cabinWrite 1 1 (some 1) none none) part) = [.lockOutSet] := by decide

/-- A presentation at a station of line 0. -/
def shown (a n : Nat) (j : JobPart) : Presentation := { station := st a, vessel := 9, card := n, issue := 1, part := j }

def withCabin1 (f : Cabin → Cabin) : State := { part with cabins := [f cabin1] }
def locked : State := withCabin1 fun c => { c with lockState := .lockedOut .command }

theorem lockedOut_locked : ∃ c, locked.cabinAt? (st 1) = some c ∧ lockedOut c := ⟨_, rfl, .command, rfl⟩
theorem free_part : part.cabinAt? (st 1) = some cabin1 ∧ ¬lockedOut cabin1 :=
  ⟨by decide, fun ⟨_, h⟩ => nomatch h⟩

theorem witness_LockGesturesAreDecided :
    (shown 1 10 .openDoor).part = .openDoor ∧ (shown 1 10 .lockout).part = .lockout ∧
    part.cabinAt? (st 2) = none ∧ (∃ c, locked.cabinAt? (st 1) = some c ∧ lockedOut c) ∧
    (part.cabinAt? (st 1) = some cabin1 ∧ ¬lockedOut cabin1) ∧ officer.data.cls = .officer ∧
    guest.data.cls ≠ .officer ∧ alert.muster.state = .alert ∧ reachesCabin guest cabin1 ∧
    ¬reachesCabin (card 11 .steward .aboard) { cabin1 with data := { cabin1.data with zone := 3 } } ∧
    isPassenger guest.data.cls ∧ ¬isPassenger officer.data.cls := by
  refine ⟨rfl, rfl, by decide, lockedOut_locked, free_part, rfl, by decide, rfl, ?_, ?_, Or.inl rfl, ?_⟩
  · exact List.mem_singleton.2 rfl
  · exact (by decide : (3 : Nat) ∉ [2])
  · rintro (h | h) <;> nomatch h

theorem test_open :
    let dec (s : State) (e : CardEntry) := (decideJob s (shown 1 10 .openDoor) e).2.reason
    [dec part guest, dec locked guest, dec locked officer, dec part { guest with data := { guest.data with cabins := [] } },
      dec (withCabin1 fun c => { c with privacy := true }) (card 30 .steward .aboard), dec part (card 30 .steward .aboard),
      dec { locked with muster := alert.muster } { card 31 .crew .aboard with data := { officer.data with
        cls := .crew, search := true } }] =
      [.granted, .lockedOut, .granted, .notListed, .privacy, .granted, .granted] ∧
    (decideJob part (shown 1 10 .openDoor) guest).1.cabins.map (fun c => (c.lockState, c.windowEnd, c.overrideEnd)) =
      [(.openWindow, some 5000, some 35000)] := by decide

theorem test_lockout :
    let dec (s : State) (e : CardEntry) := decideJob s (shown 1 10 .lockout) e
    [(dec part guest).2.reason, (dec locked guest).2.reason, (dec part officer).2.reason] =
      [.notListed, .lockedOut, .granted] ∧
    (dec part officer).1.cabins.map (fun c => c.lockState) = [.lockedOut (.officer 20)] ∧
    (dec locked officer).1.cabins.map (fun c => c.lockState) = [.secured] := by decide

def wordOf (l b p t : Bool) : Sensors := ⟨l, b, p, t⟩

theorem witness_SensorWordsMoveTheWatch :
    part.cabinAt? (st 2) = none ∧ part.cabinAt? (st 1) = some cabin1 ∧ agrees cabin1 word ∧
    ¬agrees cabin1 (wordOf true true false false) ∧ tamperMismatch cabin1 (wordOf true true false false) ∧
    ¬tamperMismatch cabin1 (wordOf false true false true) ∧ cabin1.data.tamper = .lockOut ∧ cabin1.lastWord = none ∧
    ({ cabin1 with lastWord := some word } : Cabin).lastWord ≠ none := by
  unfold agrees tamperMismatch
  decide

theorem test_sensor_words :
    let seen := withCabin1 fun c => { c with lastWord := some word }
    kinds (part.takeWord (st 1) (wordOf false true false true)) = [] ∧
    (part.takeWord (st 1) (wordOf false true false true)).cabins.map (fun c => c.watch) = [.tripped] ∧
    kinds (seen.takeWord (st 1) (wordOf false true false true)) = [.entryTripped] ∧
    kinds (seen.takeWord (st 1) (wordOf true true true false)) = [.lockOutSet, .entryTripped] ∧
    (seen.takeWord (st 1) (wordOf true true true true)).cabins.map (fun c => c.privacy) = [true] ∧
    kinds ((withCabin1 fun c => { c with lastWord := some word, watch := .tripped }).takeWord (st 1) word) =
      [.entryRestored] := by decide

def opening : State :=
  { withCabin1 fun c => { c with lockState := .openWindow, windowEnd := some 0, overrideEnd := some 1 } with timebase := 1 }

theorem witness_WindowsAndOverridesEnd :
    opening.power.mainOn = true ∧ part.cabin? 2 = none ∧
    (∃ c, opening.cabin? 1 = some c ∧ (∃ t, c.windowEnd = some t ∧ t ≤ opening.timebase) ∧
      ∃ t, c.overrideEnd = some t ∧ t ≤ opening.timebase) ∧
    (∃ c, ({ opening with timebase := 0 } : State).cabin? 1 = some c ∧ ∀ t, c.overrideEnd = some t → 0 < t) := by
  refine ⟨rfl, by decide, ⟨_, rfl, ⟨0, rfl, by decide⟩, 1, rfl, by decide⟩, _, rfl, ?_⟩
  intro t h
  have h : (some 1 : Option Nat) = some t := h
  injection h with h; omega

theorem test_windows :
    (out (.windowEnd 1) opening).cabins.map (fun c => (c.lockState, c.windowEnd)) = [(.secured, none)] ∧
    (out (.overrideEnd 1) opening).cabins.map (fun c => c.overrideEnd) = [none] ∧
    (out (.overrideEnd 1) { opening with timebase := 0 }).cabins.map (fun c => c.overrideEnd) = [some 1] := by decide

/-! ## Card checks, verdicts, referrals -/

theorem witness_RequestsAreCheckedInOrder :
    jobOf .lock (.gesture 1) = some .openDoor ∧ jobOf .lock (.gesture 3) = none ∧ jobOf .gate .none = none ∧
    vesselKnown part 9 ∧ ¬vesselKnown part 8 ∧ ¬repeats part (shown 1 10 .openDoor) ∧
    repeats { stationAs part { lockRec with repeatRecord := some { card := 10, time := 0 } } with timebase := 3999 }
      (shown 1 10 .openDoor) ∧
    ¬repeats { stationAs part { lockRec with repeatRecord := some { card := 10, time := 0 } } with timebase := 4000 }
      (shown 1 10 .openDoor) ∧
    part.card? 11 = none ∧ part.card? 10 = some guest ∧ checked part (shown 1 10 .openDoor) guest .passed ∧
    checked part { shown 1 10 .openDoor with issue := 0 } guest (.refused .superseded (some .supersededCard)) ∧
    checked part { shown 1 10 .openDoor with issue := 2 } guest (.referred .higherIssue) := by
  refine ⟨rfl, rfl, rfl, ?_, ?_, ?_, ⟨_, _, rfl, rfl, rfl, by decide⟩, ?_, by decide, by decide, ?_, Or.inl ⟨by decide, rfl⟩,
    Or.inr (Or.inl ⟨by decide, rfl⟩)⟩
  · exact (by decide : some 9 ∈ part.engine.vesselCodes.toList)
  · exact (by decide : some 8 ∉ part.engine.vesselCodes.toList)
  · rintro ⟨r, rec, h, g, _⟩
    have h : some lockRec = some r := h
    injection h with h; rw [← h] at g; nomatch g
  · rintro ⟨r, rec, h, g, _, k⟩
    have h : some { lockRec with repeatRecord := some { card := 10, time := 0 } } = some r := h
    injection h with h; rw [← h] at g
    injection g with g; rw [← g] at k
    exact absurd k (by decide)
  · exact Or.inr (Or.inr (Or.inr ⟨rfl, rfl, Or.inl ⟨Or.inl rfl, rfl⟩⟩))

/-- The verdict that stands Ready for a request of a station after it. -/
def verdictAt (s : State) (a n : Nat) (q : Request) : Option Reason :=
  ((out (.request (st a) word n q) s).station? (st a)).bind fun r => r.openRequest.bind fun o =>
    match o.state with
    | .ready v => some v.reason
    | _ => none

theorem test_requests :
    [verdictAt (polled 1 .plain) 1 3 (.presentation 9 10 1 (.gesture 1)),
      verdictAt (polled 1 .plain) 1 3 (.presentation 9 10 1 (.gesture 3)),
      verdictAt (polled 1 .plain) 1 3 (.presentation 8 10 1 (.gesture 1)),
      verdictAt (polled 1 .plain) 1 3 (.presentation 9 10 0 (.gesture 1)),
      verdictAt (polled 1 .plain) 1 3 (.presentation 9 11 1 (.gesture 1)),
      verdictAt (polled 1 .plain) 1 3 (.cancel 3), verdictAt (polled 2 .plain) 2 3 (.cancel 3),
      verdictAt (polled 3 .plain) 3 3 (.passageReport 1)] =
      [some .granted, some .parameter, some .foreign, some .superseded, none, some .parameter, some .granted,
        some .late] := by decide

def fullList : State :=
  { part with referral := { part.referral with list := (List.replicate 64
      { tag := 1, presentation := shown 1 11 .openDoor, cause := .lookupMiss, number := 3, left := 0 }) } }

theorem witness_VerdictsReferralsAndFallbacks :
    part.trunk.up = true ∧ part.referral.list.length < 64 ∧ fullList.trunk.up = true ∧
    64 ≤ fullList.referral.list.length ∧ (out .carrierLost part).trunk.up = false ∧
    ¬grantsByFallback part (shown 1 11 .openDoor) ∧ grantsByFallback part (shown 4 11 (.muster 7)) := by
  refine ⟨rfl, by decide, rfl, by decide, by decide, ?_, Or.inr (Or.inr ⟨7, rfl⟩)⟩
  rintro (⟨_, h⟩ | ⟨⟨d, h⟩, _⟩ | ⟨m, h⟩)
  · exact absurd h (by decide)
  · nomatch h
  · nomatch h

theorem test_referrals :
    (part.refer (shown 1 11 .openDoor) 3 .lookupMiss).trunk.outgoing = [.referral 1 (shown 1 11 .openDoor) .lookupMiss] ∧
    kinds (fullList.refer (shown 1 11 .openDoor) 3 .lookupMiss) = [.referralFallback] ∧
    ((part.giveVerdict (shown 1 10 .openDoor) 3 granted).cabins.map fun c => c.trail.map fun r => r.reason) =
      [[.granted]] := by decide

/-! ## Gates, muster points, answers, timers -/

def crossing (left : Nat) : State :=
  { part with passage := { part.passage with
      passages := [{ gate := st 3, card := some 10, direction := .outbound, left := left }] } }

theorem witness_GatesDecideAndCommit :
    (shown 3 10 (.passage .outbound)).part = .passage .outbound ∧ readOutcome 2 = some .notPassed ∧
    part.passageAt? (st 3) = none ∧ (crossing 0).power.mainOn = true ∧
    (∃ q, (crossing 0).passageAt? (st 3) = some q ∧ q.left = 0) ∧
    (∀ q, (crossing 1).passageAt? (st 3) = some q → q.left ≠ 0) := by
  refine ⟨rfl, rfl, by decide, rfl, ⟨_, rfl, rfl⟩, ?_⟩
  intro q h
  have h : some ({ gate := st 3, card := some 10, direction := .outbound, left := 1 } : Passage) = some q := h
  injection h with h; rw [← h]; decide

theorem test_gates :
    let dec (s : State) (d : Direction) (e : CardEntry) := (decideJob s (shown 3 10 (.passage d)) e).2.reason
    [dec base .inbound guest, dec (crossing 1) .outbound guest, dec alert .outbound guest, dec part .outbound guest,
      dec part .inbound guest, dec (inLastCall part (clockAt 18 0 0)) .outbound guest, dec part .outbound officer,
      dec part .inbound officer] =
      [.notInPort, .busy, .muster, .granted, .direction, .lastCall, .direction, .granted] ∧
    [decideReport part (st 3) 3, decideReport part (st 3) 1, decideReport (crossing 1) (st 3) 1].map (fun r => r.2) =
      [.parameter, .late, .granted] ∧
    (decideReport (crossing 1) (st 3) 1).1.passage.counters.guest = ⟨0, 1, 0⟩ ∧
    kinds (out (.passageConfirmTimeout (st 3)) (crossing 0)) = [.passageAbandoned] ∧
    kinds (out (.passageConfirmTimeout (st 3)) (crossing 1)) = [] := by decide

theorem witness_MusterPointsMarkTheCard :
    (shown 4 10 (.muster 7)).part = .muster 7 ∧ part.muster.state = .off ∧ alert.muster.state ≠ .off ∧
    alert.card? guest.data.number = some guest ∧ guest.mark ≠ .mustered 7 ∧
    ({ guest with mark := .mustered 7 } : CardEntry).mark = .mustered 7 := by decide

theorem test_muster_points :
    let d := decideJob alert (shown 4 20 (.muster 7)) officer
    (decideJob part (shown 4 20 (.muster 7)) officer).2.reason = .muster ∧ d.2.reason = .granted ∧
    kinds d.1 = [.foundAboard, .wrongMusterStation] ∧ d.1.passage.counters.officer = ⟨1, 0, 0⟩ ∧
    d.1.muster.roll[(6 : Fin 32)] = { guestJunior := 0, crew := 1, unlisted := 0 } := by decide

/-- The part with one referral, of the Lock, tag 5. -/
def referred (left : Nat) : State :=
  { part with referral := { list := [{ tag := 5, presentation := shown 1 12 .openDoor, cause := .lookupMiss,
                                       number := 3, left := left }], lastTag := 5 } }

def offer12 : CardOffer := { offer with number := 12 }

theorem witness_AnswersEndTheirReferral :
    receives (referred 1) ∧ (∃ r, (up (referred 1)).referral.list.find? (fun x => x.tag == 5) = some r) ∧
    (up (referred 1)).referral.list.find? (fun x => x.tag == 6) = none ∧
    (∃ i : State × InstallResult, installed (referred 1) (some 12) offer i ∧ i.2 ≠ .installed) := by
  refine ⟨⟨rfl, rfl⟩, ⟨_, rfl⟩, by decide, (referred 1, .parameter), ⟨fun _ => rfl, ?_⟩, by decide⟩
  intro d h
  refine ⟨fun _ => rfl, fun k => ?_⟩
  have h : some { guest.data with cabins := [1, 9999], zones := [2, 16] } = some d := h
  injection h with h
  rw [← h] at k
  exact absurd (k 12 rfl) (by decide)

theorem test_answers :
    [dat (.answerFrame 5 .grant (some offer12)) (referred 1), dat (.answerFrame 5 .grant (some offer)) (referred 1),
      dat (.answerFrame 6 .grant (some offer12)) (referred 1), dat (.answerFrame 5 .refuse none) (referred 1)] =
      [.install (some .installed), .install (some .parameter), .install (some .installed), .install none] ∧
    res (.answerFrame 0 .grant none) (referred 1) = some .late ∧
    (out (.answerFrame 5 .grant (some offer12)) (referred 1)).cabins.map (fun c => c.lockState) = [.openWindow] := by
  decide

theorem witness_TimersActWhenDue :
    (referred 0).power.mainOn = true ∧
    (∃ r, (referred 0).referral.list.find? (fun x => x.tag == 5) = some r ∧ r.left = 0) ∧
    (∃ r, (referred 1).referral.list.find? (fun x => x.tag == 5) = some r ∧ r.left ≠ 0) ∧
    (∃ x, (sessionOf 1 1).engine.session = some x ∧ x.gap ≠ 0) ∧
    (∃ f, loadingPart.engine.state = .loading f) ∧
    timeKey (clockAt 4 0 0) ≤ timeKey (clockAt 4 0 0) ∧ timeKey (clockAt 3 59 59) < timeKey (clockAt 4 0 0) ∧
    part.passage.port = .inPort (clockAt 18 0 0) ∧ part.engine.voyage.time = none ∧
    (clocked part (clockAt 4 0 0) (clockAt 4 0 0)).engine.voyage.time = some (clockAt 4 0 0) := by
  refine ⟨rfl, ⟨_, rfl, rfl⟩, ⟨_, rfl, by decide⟩, ⟨_, rfl, by decide⟩, ⟨_, rfl⟩, by decide, by decide, rfl, rfl,
    rfl⟩

def closing : State :=
  withEngine part fun e => { e with session := some { table := .card, mode := .merge, applied := 2, refused := 0, gap := 0 } }

theorem test_timers :
    kinds (out (.referralTimeout 5) (referred 0)) = [.referralFallback] ∧
    kinds (out (.referralTimeout 5) (referred 1)) = [] ∧ kinds (out .loadGapExpiry closing) = [.loadAbandoned] ∧
    kinds (out .dayBoundary (clocked part (clockAt 4 0 0) (clockAt 4 0 0))) = [.dayRollover] ∧
    kinds (out .dayBoundary (clocked part (clockAt 3 59 59) (clockAt 4 0 0))) = [] ∧
    kinds (out .allAboardDue (clocked part (clockAt 18 0 0) { clockAt 4 0 0 with day := 2 })) = [.allAboardDue] ∧
    kinds (out .allAboardDue (clocked part (clockAt 17 59 59) { clockAt 4 0 0 with day := 2 })) = [] := by decide

/-- The tag given next: the lowest above the last that is not held, and from 1 again after 65535 (R72, R143). -/
theorem test_tags :
    [nextTag [] 1 65534, nextTag [65535] 2 65534, nextTag [] 1 65535, nextTag [1, 65535] 3 65534, nextTag [4, 5] 3 3] =
      [65535, 1, 1, 2, 6] := by decide

/-! ## The invariants hold of a state with something in it -/

/-- An Alert with a card mustered, a referral of the Lock in Deciding, its Poll on the wire, an Inbound passage, a hold
and a journal record. -/
def eventful : State :=
  let s := stationAs (polled 1 (.pending 3))
    { lockRec with openRequest := some { number := 3, request := .presentation 9 12 1 (.gesture 1), state := .deciding } }
  { s with
    cards := [{ guest with mark := .mustered 7 }, officer]
    muster := { s.muster with
      state := .alert, roll := s.muster.roll.set 6 { guestJunior := 1, crew := 0, unlisted := 0 } }
    passage := { s.passage with
      passages := [{ gate := st 3, card := some 20, direction := .inbound, left := 5 }] }
    charge := { s.charge with
      lastNumber := 5
      journal := [{ number := 5, kind := .lapsed, account := 7, card := 10, station := st 2, outlet := 5, reference := 1
                    tag := 2, amount := 1, time := none, day := 0 }] }
    referral := { list := [{ tag := 5, presentation := shown 1 12 .openDoor, cause := .lookupMiss, number := 3
                             left := 5 }], lastTag := 5 } }

theorem witness_EveryStepKeepsTheInvariants :
    step { eventful with pending := [.holdLapse 3] } = .next (out (.holdLapse 3) eventful) ∧ sound eventful := by
  refine ⟨rfl, ?_, ?_, ⟨by decide, by decide, by decide⟩, ?_, ⟨by decide, ?_⟩, ⟨by decide, fun _ => ⟨by decide, by decide⟩⟩,
    ?_, ?_, ?_, ⟨by decide, by decide, by decide⟩, ⟨by decide, ?_⟩,
    ⟨by decide, by decide, by decide, by decide, fun r h => ?_⟩, ?_, ?_⟩
  · unfold State.eventsKept; decide
  · unfold State.slotsKept; decide
  · intro _ p h; rw [List.mem_singleton.1 h]
  · rintro c p; cases c <;> cases p <;> decide
  · unfold State.accountsKept; decide
  · unfold State.accountTableKept; decide
  · unfold State.cardTableKept; decide
  · intro p h n hn
    rw [List.mem_singleton.1 h] at hn
    injection hn with hn
    rw [← hn]; decide
  · rw [List.mem_singleton.1 h]
    exact ⟨_, _, rfl, rfl, rfl, rfl⟩
  · intro l e n v h1 h2 h3
    have : ∀ k : LineNo, ∀ e, (eventful.line k).exchange = some e → e.content = .pending 3 := by decide
    rw [this l e h1] at h3
    nomatch h3
  · unfold Profile.legal; decide

end Sys2Proof.Tests
end

/-! PROOF. A good frame on the trunk: the state in which it is taken, and its Status. -/

namespace Sys2Proof.Proofs

open Sys2Proof.Machine Sys2Proof.Claims

/-! ## The state in which a frame is taken (R153) -/

/-- A good frame finds the trunk Up. -/
@[simp] theorem trunk_up_up (s : State) : (up s).trunk.up = true := by
  unfold up
  split
  · assumption
  · rfl

/-- The trunk's coming Up leaves the Command Engine. -/
@[simp] theorem engine_up (s : State) : (up s).engine = s.engine := by
  unfold up
  split <;> rfl

/-- A frame that is received is taken in the state with the trunk Up (R153, R176). -/
theorem receive_of_receives {s : State} (hs : receives s) (f : State → State) : s.receive f = f (up s) :=
  if_pos hs

/-! ## Statuses (R179, R180) -/

/-- While the trunk is Up, a Status handed joins the frames awaiting transmission. -/
theorem answer_of_up {s : State} (hup : s.trunk.up = true) (cls kind tag : Nat) (result : ExecResult)
    (data : StatusData) : s.answer cls kind tag result data = withStatus s cls kind tag result data := by
  unfold State.answer State.send
  rw [if_pos hup]
  rfl

/-- A Command taken by an Idle Command Engine is answered with its outcome, where its work leaves the trunk Up. -/
theorem command_of_takes {s : State} (hs : takes s) (kind tag : Nat) (f : State → State × ExecResult × StatusData)
    (hup : (f (up s)).1.trunk.up = true) : s.command kind tag f = answered kind tag (f (up s)) := by
  obtain ⟨hreceives, hidle⟩ := hs
  have hengine : (up s).engine.state = .idle := by rw [engine_up, hidle]
  unfold State.command State.engineFrame
  rw [receive_of_receives hreceives, hengine]
  exact answer_of_up hup ..

end Sys2Proof.Proofs

/-! PROOF. Stations and their slots (R24, R25, R40): enrolment, removal and pass-through queues. -/

namespace Sys2Proof.Proofs

open Sys2Proof.Machine Sys2Proof.Claims

/-! ## Stations, gates and the claims on a station -/

/-- The station read from a line and an address has that address. -/
theorem readStation_addr {line addr : Nat} {st : Station} (h : readStation line addr = some st) :
    st.addr = addr := by
  unfold readStation at h
  split at h
  · split at h
    · cases h; rfl
    · cases h
  · cases h

theorem isGate_iff (k : StationKind) : k.isGate = true ↔ k = .gate := by
  cases k <;> simp [StationKind.isGate]

/-- The Gates of the part, counted by the model and by the statements (R23). -/
theorem gateCount_eq_gatesEnrolled (s : State) : s.gateCount = gatesEnrolled s := by
  have hgate : ∀ r : StationRec, r.kind.isGate = (r.kind == .gate) := fun r => by
    rw [Bool.eq_iff_iff, isGate_iff, beq_iff_eq]
  simp only [State.gateCount, gatesEnrolled, hgate]

theorem passageAt?_isSome_iff (s : State) (st : Station) :
    (s.passageAt? st).isSome = true ↔ ∃ p ∈ s.passage.passages, p.gate = st := by
  simp [State.passageAt?]

theorem cabinAt?_isSome_iff (s : State) (st : Station) :
    (s.cabinAt? st).isSome = true ↔ ∃ c ∈ s.cabins, c.data.lock = some st := by
  simp [State.cabinAt?]

/-! ## STATION_ENROLL (R24) -/

/-- The cases of R24 for a station and a kind that are read. -/
theorem enrollStation_of_read {line addr kind : Nat} {data : Option Nat} {st : Station} {k : StationKind} (s : State)
    (hst : readStation line addr = some st) (hk : readStationKind kind data = some k) :
    enrollStation s line addr kind data =
      if s.station? st ≠ none then (s, .inUse)
      else if k = .gate ∧ 16 ≤ gatesEnrolled s then (s, .full)
      else (withLine s st.line ((s.line st.line).enroll addr k), .ok) := by
  simp only [enrollStation, hst, hk, Option.isSome_iff_ne_none, isGate_iff, gateCount_eq_gatesEnrolled,
    readStation_addr hst]
  rfl

/-- Enrolment leaves the Trunk Port. -/
theorem trunk_enrollStation (s : State) (line addr kind : Nat) (data : Option Nat) :
    (enrollStation s line addr kind data).1.trunk = s.trunk := by
  unfold enrollStation
  (repeat' split) <;> rfl

/-! ## STATION_REMOVE (R25) -/

/-- A round with nothing left and no exchange ends as at the end of an exchange (R28). -/
theorem settleRound_eq (x : Line) : x.settleRound = if x.exchange = none then exchangeEnded x else x := by
  obtain ⟨state, settings, stations, exchange, count, round, wait, settleLeft⟩ := x
  cases exchange with
  | some e => rfl
  | none =>
    match round with
    | none => rfl
    | some [] => rfl
    | some (a :: rest) => rfl

/-- The slot's emptying of the model is that of the statement. -/
theorem remove_eq_slotEmptied (x : Line) (addr : Nat) : x.remove addr = slotEmptied x addr :=
  settleRound_eq _

/-- The cases of R25 for a slot that holds a station. -/
theorem removeStation_of_station {line addr : Nat} {st : Station} {s : State} {r : StationRec}
    (hst : readStation line addr = some st) (hr : s.station? st = some r) :
    removeStation s line addr =
      if r.openRequest ≠ none then (s, .inUse)
      else if r.kind = .gate ∧ ∃ p ∈ s.passage.passages, p.gate = st then (s, .inUse)
      else if r.kind = .lock ∧ ∃ c ∈ s.cabins, c.data.lock = some st then (s, .inUse)
      else
        let u := withLine s st.line (slotEmptied (s.line st.line) addr)
        (if r.kind.isBar then u.detachHolds st else u, .ok) := by
  simp only [removeStation, hst, hr, Option.isSome_iff_ne_none, isGate_iff, ← passageAt?_isSome_iff,
    ← cabinAt?_isSome_iff, State.modifyLine, remove_eq_slotEmptied, readStation_addr hst]
  rfl

/-- Removal leaves the Trunk Port. -/
theorem trunk_removeStation (s : State) (line addr : Nat) : (removeStation s line addr).1.trunk = s.trunk := by
  unfold removeStation
  dsimp only
  (repeat' split) <;> rfl

/-! ## THROUGH_DOWN (R40, R155) -/

/-- The cases of R40 for a slot that holds a station. -/
theorem queueThrough_of_station {line addr : Nat} {data : List Byte} {st : Station} {s : State} {r : StationRec}
    (hst : readStation line addr = some st) (hr : s.station? st = some r) :
    queueThrough s line addr data =
      if r.kind ≠ .through then (s, .parameter)
      else if data.length = 0 ∨ 64 < data.length then (s, .parameter)
      else if 4 ≤ r.queue.length then (s, .full)
      else (s.setStation st.line { r with queue := r.queue ++ [data] }, .ok) := by
  have hlength : inRange 1 Config.maxThrough data.length = false ↔ data.length = 0 ∨ 64 < data.length := by
    rw [inRange, decide_eq_false_iff_not, show Config.maxThrough = 64 from rfl]
    omega
  simp only [queueThrough, hst, hr, hlength]
  rfl

/-- A pass-through queue's growth leaves the Trunk Port. -/
theorem trunk_queueThrough (s : State) (line addr : Nat) (data : List Byte) :
    (queueThrough s line addr data).1.trunk = s.trunk := by
  unfold queueThrough
  (repeat' split) <;> rfl

/-! ## The three rows -/

/-- STATION_ENROLL taken: the Status of the enrolment in the state with the trunk Up. -/
theorem exec_stationEnroll {s : State} (hs : takes s) (tag line addr kind : Nat) (data : Option Nat) :
    exec (.stationEnroll tag line addr kind data) s =
      .next (answered 8 tag (bare (enrollStation (up s) line addr kind data))) := by
  refine congrArg Host.Outcome.next (command_of_takes hs 8 tag _ ?_)
  show (enrollStation (up s) line addr kind data).1.trunk.up = true
  rw [trunk_enrollStation, trunk_up_up]

/-- STATION_REMOVE taken: the Status of the removal in the state with the trunk Up. -/
theorem exec_stationRemove {s : State} (hs : takes s) (tag line addr : Nat) :
    exec (.stationRemove tag line addr) s = .next (answered 9 tag (bare (removeStation (up s) line addr))) := by
  refine congrArg Host.Outcome.next (command_of_takes hs 9 tag _ ?_)
  show (removeStation (up s) line addr).1.trunk.up = true
  rw [trunk_removeStation, trunk_up_up]

/-- THROUGH_DOWN taken, whatever the Command Engine is doing: the Status of the queue's answer. -/
theorem exec_throughDown {s : State} (hs : receives s) (tag line addr : Nat) (data : List Byte) :
    exec (.throughDown tag line addr data) s =
      .next (withStatus (queueThrough (up s) line addr data).1 6 0 tag (queueThrough (up s) line addr data).2) := by
  refine congrArg Host.Outcome.next ((receive_of_receives hs _).trans (answer_of_up ?_ ..))
  rw [trunk_queueThrough, trunk_up_up]

/-! ## The statements -/

/-- Settles O44, by the first case of R24 and of R25 that applies. -/
theorem stationsAreEnrolledAndRemoved : Obligations.StationsAreEnrolledAndRemoved := by
  refine ⟨fun s tag line addr kind data hs => ?enroll, fun s tag line addr hs => ?remove⟩
  case enroll =>
    refine (exec_stationEnroll hs ..).trans (congrArg (fun r => Host.Outcome.next (answered 8 tag r)) ?_)
    cases hst : readStation line addr with
    | none => simp only [enrollStation, hst, bare]
    | some st =>
      cases hk : readStationKind kind data with
      | none => simp only [enrollStation, hst, hk, bare]
      | some k =>
        rw [enrollStation_of_read _ hst hk, apply_ite bare, apply_ite bare]
        rfl
  case remove =>
    refine (exec_stationRemove hs ..).trans (congrArg (fun r => Host.Outcome.next (answered 9 tag r)) ?_)
    cases hst : readStation line addr with
    | none => simp only [removeStation, hst, bare]
    | some st =>
      cases hr : (up s).station? st with
      | none => simp only [removeStation, hst, hr, bare]
      | some r =>
        rw [removeStation_of_station hst hr, apply_ite bare, apply_ite bare, apply_ite bare]
        simp only [hr]
        rfl

/-- Settles O45, by the first case of R40 that applies. -/
theorem throughDownJoinsTheQueue : Obligations.ThroughDownJoinsTheQueue := by
  intro s tag line addr data hs
  refine (exec_throughDown hs ..).trans (congrArg Host.Outcome.next ?_)
  cases hst : readStation line addr with
  | none => simp only [queueThrough, hst, Option.bind_none]
  | some st =>
    cases hr : (up s).station? st with
    | none => simp only [queueThrough, hst, hr, Option.bind_some, Option.map_none]
    | some r =>
      rw [queueThrough_of_station hst hr]
      simp only [hr, Option.bind_some, Option.map_some]
      split_ifs <;> rfl

end Sys2Proof.Proofs

/-! PROOF. The Charge Unit: ACCOUNT_WRITE (R70), and the twelve checks of an Authorize with its hold (R71-R75). -/

namespace Sys2Proof.Proofs

open Sys2Proof.Machine Sys2Proof.Claims

/-! ## The fields of ACCOUNT_WRITE (R70 case 1) -/

/-- Some field of an Account Write is out of its range or list, or no part is carried. -/
abbrev accountPartsBad (account : Nat) (state voyageCap dailyCap : Option Nat) : Prop :=
  ¬(1 ≤ account ∧ account ≤ 999999) ∨ (state = none ∧ voyageCap = none ∧ dailyCap = none)
    ∨ (state.any fun n => readAccountState n == none) ∨ (voyageCap.any fun n => decide (99999999 < n))
    ∨ (dailyCap.any fun n => decide (99999999 < n))

/-- A part is read as the value its code names, unless a code is carried that names none. -/
theorem readPart_eq {α β : Type} [BEq β] (read : α → Option β) (part : Option α) :
    readPart read part = if part.any fun x => read x == none then none else some (part.bind read) := by
  cases part with
  | none => rfl
  | some x => cases h : read x <;> simp [readPart, h]

/-- A cap is taken unless one is carried that is above the highest. -/
theorem capInRange_iff (cap : Option Nat) :
    cap.all (inRange 0 Config.maxCap) = true ↔ ¬(cap.any fun n => decide (99999999 < n)) = true := by
  cases cap <;> simp [inRange, Config.maxCap]

/-- The tests of the other fields, for a state part that is read. -/
theorem readAccountParts_of_readPart {state : Option Nat} {st : Option AccountState}
    (hst : readPart readAccountState state = some st) (account : Nat) (voyageCap dailyCap : Option Nat) :
    readAccountParts account state voyageCap dailyCap =
      if inRange 1 Config.maxAccountNumber account && (state.isSome || voyageCap.isSome || dailyCap.isSome)
        && voyageCap.all (inRange 0 Config.maxCap) && dailyCap.all (inRange 0 Config.maxCap) then some st
      else none := by
  unfold readAccountParts
  rw [hst]
  cases voyageCap <;> cases dailyCap <;> rfl

/-- The parts are read unless one of the fields is bad. -/
theorem readAccountParts_eq (account : Nat) (state voyageCap dailyCap : Option Nat) :
    readAccountParts account state voyageCap dailyCap =
      if accountPartsBad account state voyageCap dailyCap then none else some (state.bind readAccountState) := by
  have haccount : inRange 1 Config.maxAccountNumber account = true ↔ 1 ≤ account ∧ account ≤ 999999 :=
    decide_eq_true_iff
  have hcarried : (state.isSome || voyageCap.isSome || dailyCap.isSome) = true ↔
      ¬(state = none ∧ voyageCap = none ∧ dailyCap = none) := by
    simp only [Bool.or_eq_true, Option.isSome_iff_ne_none]
    tauto
  have hread := readPart_eq readAccountState state
  by_cases hstate : (state.any fun n => readAccountState n == none) = true
  · rw [if_pos hstate] at hread
    unfold readAccountParts
    rw [hread, if_pos (Or.inr (Or.inr (Or.inl hstate)))]
  · rw [if_neg hstate] at hread
    rw [readAccountParts_of_readPart hread, ← ite_not]
    refine if_congr ?_ rfl rfl
    simp only [Bool.and_eq_true, haccount, hcarried, capInRange_iff]
    tauto

/-! ## ACCOUNT_WRITE on an account -/

/-- A cap carried below what is spent and held. -/
theorem capBelow_iff (cap : Option Nat) (now used : Nat) :
    (cap.getD now < used ∧ cap.isSome = true) ↔ (cap.any fun n => decide (n < used)) = true := by
  cases cap <;> simp

/-- An account has holds when some outstanding hold names it (R66). -/
theorem holdsOf_ne_nil_iff (c : ChargeUnit) (account : Nat) :
    c.holdsOf account ≠ [] ↔ ∃ h ∈ c.holds, h.account = account := by
  simp [ChargeUnit.holdsOf]

/-- The cases of R70 for an account that is there. -/
theorem writeAccount_of_account {account : Nat} {state voyageCap dailyCap : Option Nat} {s : State} {a : Account}
    (hparts : ¬accountPartsBad account state voyageCap dailyCap) (ha : s.account? account = some a) :
    writeAccount s account state voyageCap dailyCap =
      if voyageCap.any fun n => decide (n < a.voyageSpent + a.heldTotal) then (s, .parameter)
      else if dailyCap.any fun n => decide (n < a.dailySpent + a.heldTotal) then (s, .parameter)
      else if (state.bind readAccountState) = some .closed ∧ ∃ h ∈ s.charge.holds, h.account = account then
        (s, .inUse)
      else
        let b : Account :=
          { a with
            state := (state.bind readAccountState).getD a.state
            voyageCap := voyageCap.getD a.voyageCap
            dailyCap := dailyCap.getD a.dailyCap }
        (s.setCharge { s.charge with accounts := put Account.number b s.charge.accounts }, .ok) := by
  simp only [writeAccount, readAccountParts_eq, if_neg hparts, ha, capBelow_iff, holdsOf_ne_nil_iff]

/-- Account Write leaves the Trunk Port. -/
theorem trunk_writeAccount (s : State) (account : Nat) (state voyageCap dailyCap : Option Nat) :
    (writeAccount s account state voyageCap dailyCap).1.trunk = s.trunk := by
  unfold writeAccount
  (repeat' split) <;> rfl

/-- ACCOUNT_WRITE taken: the Status of the write in the state with the trunk Up. -/
theorem exec_accountWrite {s : State} (hs : takes s) (tag account : Nat) (state voyageCap dailyCap : Option Nat) :
    exec (.accountWrite tag account state voyageCap dailyCap) s =
      .next (answered 14 tag (bare (writeAccount (up s) account state voyageCap dailyCap))) := by
  refine congrArg Host.Outcome.next (command_of_takes hs 14 tag _ ?_)
  show (writeAccount (up s) account state voyageCap dailyCap).1.trunk.up = true
  rw [trunk_writeAccount, trunk_up_up]

/-! ## The checks of an Authorize (R74) -/

/-- The next case of a rule: it applies, or the outcome is that of the cases after it. -/
theorem of_eq_ite {α : Type} {c : Prop} [Decidable c] {x a b : α} (h : x = if c then a else b) :
    (c → x = a) ∧ (¬c → x = b) :=
  ⟨fun hc => h.trans (if_pos hc), fun hc => h.trans (if_neg hc)⟩

/-- An amount is in its range unless it is 0 or above the highest (R71). -/
theorem amountOutOfRange_iff (amount : Nat) :
    inRange 1 Config.maxAmount amount = false ↔ amount = 0 ∨ 999999 < amount := by
  rw [inRange, decide_eq_false_iff_not, show Config.maxAmount = 999999 from rfl]
  omega

/-- Checks 1 to 4 of R74, on an Authorize at a Bar. -/
theorem decideJob_authorize {p : Presentation} {amount reference : Nat} {goods : Goods}
    (hp : p.part = .authorize amount goods reference) (s : State) (e : CardEntry) :
    decideJob s p e =
      if amount = 0 ∨ 999999 < amount then refusal s .parameter
      else if s.muster.state ≠ .off then refusal s .barsClosed
      else match e.data.account.bind s.account? with
        | none => refusal s .noAccount
        | some a => authorizeOn s p.station e a amount goods reference := by
  simp only [decideJob, hp, decideAuthorize, amountOutOfRange_iff]
  cases e.data.account with
  | none => rfl
  | some n => cases hn : s.account? n <;> simp only [Option.bind_some, hn] <;> rfl

/-- A grant of the model: the hold is created and its tag is the verdict's (R75). -/
def grantWithHold (s : State) (p : Presentation) (e : CardEntry) (a : Account) (amount : Nat) (goods : Goods)
    (reference : Nat) : State × Verdict :=
  let r := s.createHold p.station e.data.number a amount goods reference
  (r.1, { reason := .granted, holdTag := some r.2 })

/-- Checks 5 to 12 of R74, in the words of the statement. -/
theorem authorizeOn_eq (s : State) (p : Presentation) (e : CardEntry) (a : Account) (amount reference : Nat)
    (goods : Goods) :
    authorizeOn s p.station e a amount goods reference =
      if a.state ≠ .opened then refusal s .accountHeld
      else if e.data.cls = .junior ∧ goods = .restricted then refusal s .age
      else if e.presence = .ashore then refusal (withEvent s
        { kind := .presenceAnomaly, station := some p.station, card := some e.data.number,
          account := some a.number }) .presence
      else if s.engine.profile.terminalHoldLimit ≤ (terminalHolds s p.station).length then refusal s .terminalLimit
      else if 8 ≤ (accountHolds s a.number).length ∨ 256 ≤ s.charge.holds.length then refusal s .holdLimit
      else if 2048 ≤ slotsInUse s then refusal s .journalFull
      else if a.voyageCap < a.voyageSpent + a.heldTotal + amount then refusal s .cap
      else if a.dailyCap < a.dailySpent + a.heldTotal + amount then refusal s .dailyCap
      else grantWithHold s p e a amount goods reference := rfl

/-- The hold of a grant has the tag that the rule of R72 gives, fewer holds being outstanding than there are tags. -/
theorem grantWithHold_holdGranted {s : State} (hholds : s.charge.holds.length < 256) (p : Presentation) (e : CardEntry)
    (a : Account) (amount : Nat) (goods : Goods) (reference : Nat) :
    holdGranted s p e a amount goods reference (grantWithHold s p e a amount goods reference) := by
  have hfree : (s.charge.holds.map Hold.tag).length < Config.maxWord16 := by
    rw [List.length_map, show Config.maxWord16 = 65535 from rfl]
    omega
  refine ⟨_, nextTag_given _ _ hfree, fun r outlet hr hkind => ?_⟩
  have houtlet : s.outletOf p.station = outlet := by rw [State.outletOf, hr]; simp only [hkind, StationKind.outlet]
  rw [List.length_map, ← houtlet]
  rfl

/-! ## The statements -/

/-- Settles O20, by the first case of R70 that applies. -/
theorem accountWriteAppliesAllOrNothing : Obligations.AccountWriteAppliesAllOrNothing := by
  intro s tag account state voyageCap dailyCap hs
  refine (exec_accountWrite hs ..).trans (congrArg (fun r => Host.Outcome.next (answered 14 tag r)) ?_)
  by_cases hparts : accountPartsBad account state voyageCap dailyCap
  · rw [if_pos hparts, writeAccount, readAccountParts_eq, if_pos hparts]
    rfl
  · rw [if_neg hparts]
    cases ha : (up s).account? account with
    | none =>
      simp only [writeAccount, readAccountParts_eq, if_neg hparts, ha]
      rfl
    | some a =>
      rw [writeAccount_of_account hparts ha, apply_ite bare, apply_ite bare, apply_ite bare]
      rfl

/-- Settles O54: each check of R74 is the first that applies, and a presentation that passes all of them is granted. -/
theorem authorizeRunsItsChecks : Obligations.AuthorizeRunsItsChecks := by
  intro s p e amount reference goods hp
  obtain ⟨hparameter, hcheck⟩ := of_eq_ite (decideJob_authorize hp s e)
  refine ⟨by rw [decideGrant, hp]; rfl, hparameter, fun hlow hhigh => ?_⟩
  obtain ⟨hbars, hcheck⟩ := of_eq_ite (hcheck (by omega))
  refine ⟨hbars, fun hmuster => ?_⟩
  have hcheck := hcheck (not_not.2 hmuster)
  refine ⟨fun hnone => by rw [hcheck, hnone], fun a ha => ?_⟩
  rw [ha] at hcheck
  obtain ⟨hheld, hcheck⟩ := of_eq_ite (hcheck.trans (authorizeOn_eq ..))
  refine ⟨hheld, fun hopened => ?_⟩
  obtain ⟨hage, hcheck⟩ := of_eq_ite (hcheck (not_not.2 hopened))
  refine ⟨fun hcls hgoods => hage ⟨hcls, hgoods⟩, fun hadult => ?_⟩
  obtain ⟨hashore, hcheck⟩ := of_eq_ite (hcheck hadult)
  refine ⟨hashore, fun haboard => ?_⟩
  obtain ⟨hterminal, hcheck⟩ := of_eq_ite (hcheck haboard)
  refine ⟨hterminal, fun hbelow => ?_⟩
  obtain ⟨hlimit, hcheck⟩ := of_eq_ite (hcheck (Nat.not_le.2 hbelow))
  refine ⟨hlimit, fun haccount hholds => ?_⟩
  obtain ⟨hjournal, hcheck⟩ := of_eq_ite (hcheck (by omega))
  refine ⟨hjournal, fun hslots => ?_⟩
  obtain ⟨hcap, hcheck⟩ := of_eq_ite (hcheck (Nat.not_le.2 hslots))
  refine ⟨hcap, fun hvoyage => ?_⟩
  obtain ⟨hdaily, hcheck⟩ := of_eq_ite (hcheck (Nat.not_lt.2 hvoyage))
  refine ⟨hdaily, fun hday => ?_⟩
  rw [hcheck (Nat.not_lt.2 hday)]
  exact grantWithHold_holdGranted hholds ..

end Sys2Proof.Proofs

/-! PROOF. The Charge Journal: JOURNAL_READ (R95, R96) and JOURNAL_RELEASE (R97). -/

namespace Sys2Proof.Proofs

open Sys2Proof.Machine Sys2Proof.Claims

/-! ## The cases of the two commands -/

/-- A value is out of a range from 1 on when it is 0 or above the highest. -/
theorem inRange_one_eq_false_iff (high n : Nat) : inRange 1 high n = false ↔ n = 0 ∨ high < n := by
  rw [inRange, decide_eq_false_iff_not]
  omega

/-- A Journal Read is refused for a start or a count out of its range (R95). -/
theorem readJournal_eq (s : State) (start count : Nat) :
    readJournal s start count =
      if start = 0 ∨ 4294967295 < start ∨ count = 0 ∨ 16 < count then (.parameter, .none)
      else (.ok, .journal (journalPage s.charge.journal start count) (oldestNumber s.charge.journal)
        s.charge.lastNumber) := by
  have hfields : ¬(inRange 1 Config.maxWord32 start && inRange 1 16 count) = true ↔
      start = 0 ∨ 4294967295 < start ∨ count = 0 ∨ 16 < count := by
    rw [Bool.not_eq_true, Bool.and_eq_false_iff, inRange_one_eq_false_iff, inRange_one_eq_false_iff, or_assoc]
    rfl
  rw [readJournal, ← ite_not]
  exact if_congr hfields rfl rfl

/-- A Journal Release is refused for a number out of its range or above the last given (R97). -/
theorem releaseJournal_eq (s : State) (n : Nat) :
    releaseJournal s n =
      if n = 0 ∨ 4294967295 < n ∨ s.charge.lastNumber < n then (s, .parameter, .none)
      else
        let kept := s.charge.journal.filter fun r => decide (n < r.number)
        (s.setCharge { s.charge with journal := kept }, .ok,
          .released (s.charge.journal.length - kept.length) (oldestNumber kept)) := by
  have hnumber : (n = 0 ∨ 4294967295 < n ∨ s.charge.lastNumber < n) ↔
      inRange 1 Config.maxWord32 n = false ∨ n > s.charge.lastNumber := by
    rw [inRange_one_eq_false_iff, or_assoc]
    rfl
  rw [if_congr hnumber rfl rfl, ite_or]
  rfl

/-- Journal Release leaves the Trunk Port. -/
theorem trunk_releaseJournal (s : State) (n : Nat) : (releaseJournal s n).1.trunk = s.trunk := by
  rw [releaseJournal_eq]
  split <;> rfl

/-! ## The two rows -/

/-- JOURNAL_READ taken: the Status of the read in the state with the trunk Up, which stays. -/
theorem exec_journalRead {s : State} (hs : takes s) (tag start count : Nat) :
    exec (.journalRead tag start count) s =
      .next (answered 19 tag (readOnly (up s) (readJournal (up s) start count))) :=
  congrArg Host.Outcome.next (command_of_takes hs 19 tag _ (trunk_up_up s))

/-- JOURNAL_RELEASE taken: the Status of the release in the state with the trunk Up. -/
theorem exec_journalRelease {s : State} (hs : takes s) (tag n : Nat) :
    exec (.journalRelease tag n) s = .next (answered 20 tag (releaseJournal (up s) n)) := by
  refine congrArg Host.Outcome.next (command_of_takes hs 20 tag _ ?_)
  rw [trunk_releaseJournal, trunk_up_up]

/-! ## The statement -/

/-- Settles O21, by the fields of each command in and out of their ranges. -/
theorem journalReadAndRelease : Obligations.JournalReadAndRelease := by
  refine ⟨fun s tag start count hs => ?read, fun s tag n hs => ?release⟩
  case read =>
    rw [exec_journalRead hs, readJournal_eq]
    refine ⟨fun hstart hstart' hcount hcount' => ?_, fun hbad => ?_⟩
    · rw [if_neg (by omega)]
      rfl
    · rw [if_pos hbad]
      rfl
  case release =>
    rw [exec_journalRelease hs, releaseJournal_eq]
    refine ⟨fun hbad => ?_, fun hn hn' hlast => ?_⟩
    · rw [if_pos hbad]
      rfl
    · rw [if_neg (by omega)]
      rfl

end Sys2Proof.Proofs

/-! PROOF. The Passage Unit: PRESENCE_SET (R116), and the counter movements of R106. -/

namespace Sys2Proof.Proofs

open Sys2Proof.Machine Sys2Proof.Claims

/-! ## A change of presence (R105, R106) -/

/-- A change of presence writes the entry and moves the counters; a presence equal to the present one moves none. -/
theorem setPresence_eq_withPresence (s : State) (e : CardEntry) (p : Presence) (stamp : Nat) :
    s.setPresence e p stamp = withPresence s e p stamp := by
  unfold State.setPresence withPresence moved
  by_cases hsame : e.presence = p
  · rw [if_pos hsame, if_pos hsame]
    rfl
  · rw [if_neg hsame, if_neg hsame]
    rfl

/-! ## PRESENCE_SET (R116) -/

/-- The card number and the stamp carried are in their ranges (R116 case 1). -/
theorem presenceSetFields_iff (card stamp : Nat) :
    (inRange 1 Config.maxCardNumber card && inRange 0 Config.maxWord32 stamp) = false ↔
      ¬(1 ≤ card ∧ card ≤ 16777215 ∧ stamp ≤ 4294967295) := by
  rw [Bool.and_eq_false_iff, inRange_one_eq_false_iff, inRange, decide_eq_false_iff_not, Config.maxCardNumber,
    Config.maxWord32]
  omega

/-- Case 1 of R116 for a presence that is read: a card number or a stamp out of its range. -/
theorem setCardPresence_of_fieldsBad {card presence stamp : Nat} {p : Presence} (s : State)
    (hp : readPresence presence = some p) (hbad : ¬(1 ≤ card ∧ card ≤ 16777215 ∧ stamp ≤ 4294967295)) :
    setCardPresence s card presence stamp = (s, .parameter, .none) := by
  rw [setCardPresence, hp]
  exact if_pos ((presenceSetFields_iff card stamp).2 hbad)

/-- Case 2 of R116: the card is not in the Card Table. -/
theorem setCardPresence_of_no_card {card presence stamp : Nat} {p : Presence} {s : State}
    (hp : readPresence presence = some p) (hfields : 1 ≤ card ∧ card ≤ 16777215 ∧ stamp ≤ 4294967295)
    (hcard : s.card? card = none) : setCardPresence s card presence stamp = (s, .notFound, .none) := by
  simp only [setCardPresence, hp, presenceSetFields_iff, not_not.2 hfields, if_false, hcard]

/-- Cases 3 to 5 of R116, of a card that is there. -/
theorem setCardPresence_of_card {card presence stamp : Nat} {p : Presence} {s : State} {e : CardEntry}
    (hp : readPresence presence = some p) (hfields : 1 ≤ card ∧ card ≤ 16777215 ∧ stamp ≤ 4294967295)
    (hcard : s.card? card = some e) :
    setCardPresence s card presence stamp =
      if stamp ≤ e.stamp then (s, .stale, .stamp e.stamp)
      else if s.muster.state ≠ .off ∧ e.mark ≠ .unmarked ∧ p ≠ .aboard then (s, .inUse, .none)
      else (withPresence s e p stamp, .ok, .none) := by
  simp only [setCardPresence, hp, presenceSetFields_iff, not_not.2 hfields, if_false, hcard,
    setPresence_eq_withPresence]

/-- Presence Set leaves the Trunk Port. -/
theorem trunk_setCardPresence (s : State) (card presence stamp : Nat) :
    (setCardPresence s card presence stamp).1.trunk = s.trunk := by
  simp only [setCardPresence, setPresence_eq_withPresence]
  (repeat' split) <;> rfl

/-- PRESENCE_SET taken: the Status of the Presence Set in the state with the trunk Up. -/
theorem exec_presenceSet {s : State} (hs : takes s) (tag card presence stamp : Nat) :
    exec (.presenceSet tag card presence stamp) s =
      .next (answered 16 tag (setCardPresence (up s) card presence stamp)) := by
  refine congrArg Host.Outcome.next (command_of_takes hs 16 tag _ ?_)
  rw [trunk_setCardPresence, trunk_up_up]

/-! ## The statement -/

/-- Settles O16, by the first case of R116 that applies. -/
theorem presenceSetNeedsAHigherStamp : Obligations.PresenceSetNeedsAHigherStamp := by
  intro s tag card presence stamp hs
  refine (exec_presenceSet hs ..).trans (congrArg (fun r => Host.Outcome.next (answered 16 tag r)) ?_)
  cases hp : readPresence presence with
  | none => rw [setCardPresence, hp]
  | some p =>
    by_cases hfields : 1 ≤ card ∧ card ≤ 16777215 ∧ stamp ≤ 4294967295
    · refine Eq.trans ?_ (if_neg (not_not.2 hfields)).symm
      cases hcard : (up s).card? card with
      | none => exact setCardPresence_of_no_card hp hfields hcard
      | some e => exact setCardPresence_of_card hp hfields hcard
    · exact (setCardPresence_of_fieldsBad (up s) hp hfields).trans (if_pos hfields).symm

end Sys2Proof.Proofs

/-! PROOF. The Muster Unit: MUSTER_START and MUSTER_END (R125-R128), and the alarm inputs (R129-R132). -/

namespace Sys2Proof.Proofs

open Sys2Proof.Machine Sys2Proof.Claims

/-! ## Entry and escalation (R114, R126, R127) -/

/-- A pending passage is abandoned as the statements say (R111). -/
theorem abandonPassage_eq_passageAbandoned (s : State) (gate : Station) (why : Detail) :
    s.abandonPassage gate why = passageAbandoned s gate why := by
  unfold State.abandonPassage passageAbandoned State.passageAt?
  cases s.passage.passages.find? fun p => p.gate == gate <;> rfl

theorem abandonAll_eq_abandonedInMuster (ps : List Passage) (s : State) :
    abandonAll ps s = abandonedInMuster ps s := by
  induction ps generalizing s with
  | nil => rfl
  | cons p ps ih => rw [abandonAll, abandonedInMuster, ih, abandonPassage_eq_passageAbandoned]

/-- The model's entry to a muster is that of the statement (R126). -/
theorem enterMuster_eq_musterEntered (s : State) (m : MusterState) (started : Detail) :
    s.enterMuster m started = musterEntered s m started :=
  abandonAll_eq_abandonedInMuster ..

/-- Entry to a muster leaves the Trunk Port. -/
theorem trunk_musterEntered (s : State) (m : MusterState) (started : Detail) :
    (musterEntered s m started).trunk = s.trunk := by
  obtain ⟨x, k, l, q, h⟩ := enterMuster_eq s m started
  rw [← enterMuster_eq_musterEntered, h]
  rfl

/-- Escalation leaves the Trunk Port. -/
theorem trunk_musterEscalated (s : State) (how : Detail) : (musterEscalated s how).trunk = s.trunk := rfl

/-! ## MUSTER_START (R125) -/

/-- The cases of R125, with the entry and the escalation in the words of the statement. -/
theorem startMuster_eq (s : State) (option : Nat) :
    bare (startMuster s option) =
      match readMusterOption option, s.muster.state with
      | none, _ => (s, .parameter, .none)
      | some m, .off => (musterEntered s m (.option m), .ok, .none)
      | some .alert, .drill => (musterEscalated s (.option .alert), .ok, .none)
      | some _, _ => (s, .parameter, .none) := by
  unfold startMuster
  cases readMusterOption option with
  | none => rfl
  | some m =>
    cases s.muster.state with
    | off => exact congrArg (fun t => bare (t, .ok)) (enterMuster_eq_musterEntered ..)
    | drill => cases m <;> rfl
    | alert => cases m <;> rfl

/-- Muster Start leaves the Trunk Port. -/
theorem trunk_startMuster (s : State) (option : Nat) : (startMuster s option).1.trunk = s.trunk := by
  show (bare (startMuster s option)).1.trunk = s.trunk
  rw [startMuster_eq]
  split
  case h_2 => exact trunk_musterEntered ..
  all_goals rfl

/-- MUSTER_START taken: the Status of the start in the state with the trunk Up. -/
theorem exec_musterStart {s : State} (hs : takes s) (tag option : Nat) :
    exec (.musterStart tag option) s = .next (answered 23 tag (bare (startMuster (up s) option))) := by
  refine congrArg Host.Outcome.next (command_of_takes hs 23 tag _ ?_)
  show (startMuster (up s) option).1.trunk.up = true
  rw [trunk_startMuster, trunk_up_up]

/-! ## MUSTER_END (R128) -/

/-- A level mode finds its level asserted (R129, third column). -/
theorem heldBy_iff_asserted (x : AlarmInput) : x.mode.heldBy x.level = true ↔ asserted x := by
  obtain ⟨mode, level, seen⟩ := x
  cases mode <;> simp [AlarmMode.heldBy, asserted]

/-- Muster End is held off when some input is asserted. -/
theorem heldOff_iff (m : MusterUnit) : m.heldOff = true ↔ ∃ i : Fin 4, asserted m.inputs[i] := by
  simp only [MusterUnit.heldOff, List.any_eq_true, heldBy_iff_asserted, Vector.mem_toList_iff, Vector.mem_iff_getElem]
  constructor
  · rintro ⟨_, ⟨i, hi, rfl⟩, hx⟩
    exact ⟨⟨i, hi⟩, hx⟩
  · rintro ⟨i, hx⟩
    exact ⟨_, ⟨i, i.isLt, rfl⟩, hx⟩

/-- Muster End leaves the Trunk Port. -/
theorem trunk_finishMuster (s : State) : (finishMuster s).1.trunk = s.trunk := by
  unfold finishMuster
  (repeat' split) <;> rfl

/-- MUSTER_END taken: the Status of the end in the state with the trunk Up. -/
theorem exec_musterEnd {s : State} (hs : takes s) (tag : Nat) :
    exec (.musterEnd tag) s = .next (answered 24 tag (bare (finishMuster (up s)))) := by
  refine congrArg Host.Outcome.next (command_of_takes hs 24 tag _ ?_)
  show (finishMuster (up s)).1.trunk.up = true
  rw [trunk_finishMuster, trunk_up_up]

/-- Settles O18, by the first case of R125 and of R128 that applies. -/
theorem musterStartAndMusterEnd : Obligations.MusterStartAndMusterEnd := by
  refine ⟨fun s tag option hs => ?start, fun s tag hs => ?finish⟩
  case start =>
    refine (exec_musterStart hs ..).trans (congrArg (fun r => Host.Outcome.next (answered 23 tag r)) ?_)
    exact startMuster_eq ..
  case finish =>
    rw [exec_musterEnd hs, finishMuster]
    refine ⟨fun hoff => ?_, fun hon hheld => ?_, fun hon hfree => ?_⟩
    · rw [if_pos hoff]
      rfl
    · rw [if_neg hon, if_pos ((heldOff_iff _).2 hheld)]
      rfl
    · rw [if_neg hon, if_neg (mt (heldOff_iff _).1 hfree)]
      rfl

/-! ## Conditions of the alarm inputs (R129, R130) -/

/-- A changed input holds what the change makes of it. -/
theorem modifyInput_input (s : State) (i : Fin 4) (f : AlarmInput → AlarmInput) :
    (s.modifyInput i f).muster.inputs[i] = f s.muster.inputs[i] :=
  Vector.getElem_set_self ..

/-- The model's condition of an input is that of the statements (R130). -/
theorem alarmCondition_eq_conditionOccurred (s : State) (i : Fin 4) :
    s.alarmCondition i = conditionOccurred s i := by
  unfold State.alarmCondition conditionOccurred
  simp only [modifyInput_input, enterMuster_eq_musterEntered]
  rfl

/-- A condition leaves the Trunk Port. -/
theorem trunk_conditionOccurred (s : State) (i : Fin 4) : (conditionOccurred s i).trunk = s.trunk := by
  unfold conditionOccurred
  dsimp only
  split
  · rfl
  · split
    · exact trunk_musterEntered ..
    · rfl
    · rfl

/-! ## ALARM_CONFIG (R131) -/

theorem readInput_of_input (i : Fin 4) : readInput (i.val + 1) = some i :=
  dif_pos (by omega)

theorem readInput_eq_none {n : Nat} (h : n = 0 ∨ 4 < n) : readInput n = none :=
  dif_neg (by omega)

theorem readAlarmMode_code (m : AlarmMode) : readAlarmMode m.code = some m := by
  cases m <;> rfl

theorem readAlarmMode_eq_none {n : Nat} (h : n = 0 ∨ 5 < n) : readAlarmMode n = none := by
  obtain rfl | ⟨k, rfl⟩ : n = 0 ∨ ∃ k, n = k + 6 := h.imp_right fun h => ⟨n - 6, by omega⟩
  · rfl
  · rfl

/-- Alarm Config of an input and a mode that are read: the mode is replaced, and its condition occurs when it finds the
level asserted. -/
theorem configureAlarm_of_read {input mode : Nat} {i : Fin 4} {m : AlarmMode} (s : State)
    (hi : readInput input = some i) (hm : readAlarmMode mode = some m) :
    configureAlarm s input mode = ((s.modifyInput i fun x => { x with mode := m }).alarmIfHeld i, .ok) := by
  rw [configureAlarm, hi, hm]

/-- Alarm Config of an input or a mode that is not read changes nothing. -/
theorem configureAlarm_of_unread {input mode : Nat} (s : State)
    (h : readInput input = none ∨ readAlarmMode mode = none) :
    configureAlarm s input mode = (s, .parameter) := by
  unfold configureAlarm
  rcases h with hi | hm
  · rw [hi]
  · rw [hm]
    cases readInput input <;> rfl

/-- A level mode that finds its level asserted has its condition. -/
theorem alarmIfHeld_of_asserted {s : State} {i : Fin 4} (h : asserted s.muster.inputs[i]) :
    s.alarmIfHeld i = conditionOccurred s i := by
  rw [State.alarmIfHeld, if_pos ((heldBy_iff_asserted _).2 h), alarmCondition_eq_conditionOccurred]

/-- An input that is not asserted has no condition. -/
theorem alarmIfHeld_of_not_asserted {s : State} {i : Fin 4} (h : ¬asserted s.muster.inputs[i]) :
    s.alarmIfHeld i = s := by
  rw [State.alarmIfHeld, if_neg (mt (heldBy_iff_asserted _).1 h)]

/-- The condition that a level mode may find leaves the Trunk Port. -/
theorem trunk_alarmIfHeld (s : State) (i : Fin 4) : (s.alarmIfHeld i).trunk = s.trunk := by
  by_cases h : asserted s.muster.inputs[i]
  · rw [alarmIfHeld_of_asserted h, trunk_conditionOccurred]
  · rw [alarmIfHeld_of_not_asserted h]

/-- Alarm Config leaves the Trunk Port. -/
theorem trunk_configureAlarm (s : State) (input mode : Nat) : (configureAlarm s input mode).1.trunk = s.trunk := by
  unfold configureAlarm
  split
  · exact trunk_alarmIfHeld ..
  · rfl

/-- ALARM_CONFIG taken: the Status of the configuration in the state with the trunk Up. -/
theorem exec_alarmConfig {s : State} (hs : takes s) (tag input mode : Nat) :
    exec (.alarmConfig tag input mode) s = .next (answered 27 tag (bare (configureAlarm (up s) input mode))) := by
  refine congrArg Host.Outcome.next (command_of_takes hs 27 tag _ ?_)
  show (configureAlarm (up s) input mode).1.trunk.up = true
  rw [trunk_configureAlarm, trunk_up_up]

/-! ## ALARM_STATUS (R132) -/

/-- ALARM_STATUS taken: the Status of the inputs in the state with the trunk Up. -/
theorem exec_alarmStatus {s : State} (hs : takes s) (tag : Nat) :
    exec (.alarmStatus tag) s = .next (answered 28 tag (readAlarms (up s))) :=
  congrArg Host.Outcome.next (command_of_takes hs 28 tag _ (trunk_up_up s))

/-! ## ALARM_INPUT (R129) -/

/-- The modes whose condition is a change to the given level, Disabled included (R129, second column). -/
theorem onChange_iff (mode : AlarmMode) (level : Bool) :
    mode.onChange level = true ↔
      mode = .disabled ∨ (level = true ∧ (mode = .risingEdge ∨ mode = .levelHigh)) ∨
        (level = false ∧ (mode = .fallingEdge ∨ mode = .levelLow)) := by
  cases mode <;> simp [AlarmMode.onChange]

/-- The modes for which a change to the given level is no condition. -/
theorem onChange_eq_false_iff (mode : AlarmMode) (level : Bool) :
    mode.onChange level = false ↔
      (level = true ∧ (mode = .fallingEdge ∨ mode = .levelLow)) ∨
        (level = false ∧ (mode = .risingEdge ∨ mode = .levelHigh)) := by
  cases mode <;> simp [AlarmMode.onChange]

/-- A level that stays gives nothing. -/
theorem alarmChange_of_same {s : State} {i : Fin 4} {level : Bool} (h : s.muster.inputs[i].level = level) :
    s.alarmChange i level = s :=
  if_pos h

/-- A change of the level is stored, and is a condition where the input's mode says so. -/
theorem alarmChange_of_change {s : State} {i : Fin 4} {level : Bool} (h : s.muster.inputs[i].level ≠ level) :
    s.alarmChange i level =
      let u := s.modifyInput i fun x => { x with level := level }
      if s.muster.inputs[i].mode.onChange level = true then conditionOccurred u i else u := by
  simp only [State.alarmChange, if_neg h, modifyInput_input, alarmCondition_eq_conditionOccurred]

/-- ALARM_INPUT while main power is on. -/
theorem exec_alarmInput {s : State} (hon : s.power.mainOn = true) (i : Fin 4) (level : Bool) :
    exec (.alarmInput i level) s = .next (s.alarmChange i level) :=
  congrArg Host.Outcome.next (if_pos hon)

/-! ## The statement -/

/-- Settles O19, by the mode of the input and the level it finds. -/
theorem alarmInputsFollowTheirModes : Obligations.AlarmInputsFollowTheirModes := by
  refine ⟨fun s tag hs => ⟨fun i m => ?config, fun input mode hbad => ?refused⟩, fun s tag hs => ?status,
    fun s i level hon => ?change⟩
  case config =>
    rw [exec_alarmConfig hs, configureAlarm_of_read _ (readInput_of_input i) (readAlarmMode_code m)]
    refine ⟨fun hheld => ?_, fun hfree => ?_⟩
    · rw [alarmIfHeld_of_asserted (by rwa [modifyInput_input])]
      rfl
    · rw [alarmIfHeld_of_not_asserted (by rwa [modifyInput_input])]
      rfl
  case refused =>
    have hunread : readInput input = none ∨ readAlarmMode mode = none :=
      (or_assoc.2 hbad).imp readInput_eq_none readAlarmMode_eq_none
    rw [exec_alarmConfig hs, configureAlarm_of_unread _ hunread]
    rfl
  case status => exact exec_alarmStatus hs tag
  case change =>
    rw [exec_alarmInput hon]
    refine ⟨fun hsame => ?_, fun hchange => ?_⟩
    · rw [alarmChange_of_same hsame]
    · rw [alarmChange_of_change hchange]
      refine ⟨fun hcond => ?_, fun hnone => ?_⟩
      · exact congrArg Host.Outcome.next (if_pos ((onChange_iff ..).2 hcond))
      · exact congrArg Host.Outcome.next (if_neg (ne_true_of_eq_false ((onChange_eq_false_iff ..).2 hnone)))

end Sys2Proof.Proofs

/-! PROOF. The Command Engine's tables: load sessions (R160, R167), ENTRY_READ (R170) and the
protection record (R171-R173). -/

namespace Sys2Proof.Proofs

open Sys2Proof.Machine Sys2Proof.Claims

/-! ## LOAD_OPEN (R160) -/

/-- The model's test of a mode's permission is that of the statements (R162). -/
theorem allows_eq_permitted (p : Protection) (m : LoadMode) : p.allows m = permitted p m := by
  cases m <;> rfl

/-- Case 1 of R160: a table or a mode out of its list. -/
theorem openLoad_of_unread {table mode : Nat} (s : State) (h : readTable table = none ∨ readMode mode = none) :
    openLoad s table mode = (s, .parameter) := by
  unfold openLoad
  split
  case h_1 ht hm => simp [ht, hm] at h
  case h_2 => rfl

/-- The other cases of R160, for a table and a mode that are read. -/
theorem openLoad_of_read {table mode : Nat} {tb : TableName} {m : LoadMode} (s : State)
    (ht : readTable table = some tb) (hm : readMode mode = some m) :
    openLoad s table mode =
      if s.engine.session.isSome then (s, .busy)
      else if permitted s.engine.protection m = false then (s, .protect)
      else
        (s.setEngine { s.engine with
          session := some (openedSession tb m s.engine.profile.loadGapTimeout) }, .ok) := by
  simp only [openLoad, ht, hm, allows_eq_permitted]

/-- Load Open leaves the Trunk Port. -/
theorem trunk_openLoad (s : State) (table mode : Nat) : (openLoad s table mode).1.trunk = s.trunk := by
  unfold openLoad
  (repeat' split) <;> rfl

/-- LOAD_OPEN taken: the Status of the opening in the state with the trunk Up. -/
theorem exec_loadOpen {s : State} (hs : takes s) (tag table mode : Nat) :
    exec (.loadOpen tag table mode) s = .next (answered 11 tag (bare (openLoad (up s) table mode))) := by
  refine congrArg Host.Outcome.next (command_of_takes hs 11 tag _ ?_)
  show (openLoad (up s) table mode).1.trunk.up = true
  rw [trunk_openLoad, trunk_up_up]

/-! ## LOAD_CLOSE (R167) -/

/-- Load Close leaves the Trunk Port. -/
theorem trunk_closeLoad (s : State) : (closeLoad s).1.trunk = s.trunk := by
  unfold closeLoad
  split <;> rfl

/-- LOAD_CLOSE taken: the Status of the closing in the state with the trunk Up. -/
theorem exec_loadClose {s : State} (hs : takes s) (tag : Nat) :
    exec (.loadClose tag) s = .next (answered 12 tag (closeLoad (up s))) := by
  refine congrArg Host.Outcome.next (command_of_takes hs 12 tag _ ?_)
  rw [trunk_closeLoad, trunk_up_up]

/-- Settles O9, by the first case of R160 that applies, and by the session that LOAD_CLOSE finds. -/
theorem loadSessionsOpenAndClose : Obligations.LoadSessionsOpenAndClose := by
  refine ⟨fun s tag table mode hs => ?opening, fun s tag hs => ?closing⟩
  case opening =>
    refine (exec_loadOpen hs ..).trans (congrArg (fun r => Host.Outcome.next (answered 11 tag r)) ?_)
    cases ht : readTable table with
    | none => rw [openLoad_of_unread _ (.inl ht), bare]
    | some tb =>
      cases hm : readMode mode with
      | none => rw [openLoad_of_unread _ (.inr hm), bare]
      | some m =>
        rw [openLoad_of_read _ ht hm, apply_ite bare, apply_ite bare]
        rfl
  case closing =>
    refine (exec_loadClose hs tag).trans (congrArg (fun r => Host.Outcome.next (answered 12 tag r)) ?_)
    unfold closeLoad
    cases (up s).engine.session <;> rfl

/-! ## ENTRY_READ (R170) -/

/-- A card is looked up by its number. -/
theorem card?_eq_find? (s : State) (n : Nat) : s.card? n = s.cards.find? fun e => e.data.number == n := rfl

/-- An account is looked up by its number. -/
theorem account?_eq_find? (s : State) (n : Nat) : s.account? n = s.charge.accounts.find? fun a => a.number == n := rfl

/-- A cabin is looked up by its number. -/
theorem cabin?_eq_find? (s : State) (n : Nat) : s.cabin? n = s.cabins.find? fun c => c.data.number == n := rfl

/-- The answer to a read of a key from 1 to the highest of its table: the entry found there, if any (R170). -/
def entryAnswer {α : Type} (high key : Nat) (entry : Option α) (data : α → StatusData) : ExecResult × StatusData :=
  if 1 ≤ key ∧ key ≤ high then entry.elim (.notFound, .none) fun x => (.ok, data x) else (.parameter, .none)

/-- A read of the Card Table. -/
theorem readEntry_of_card {table : Nat} (s : State) (key : Nat) (ht : readTable table = some .card) :
    readEntry s table key = entryAnswer 16777215 key (s.card? key) .card := by
  rw [readEntry, ht]
  refine if_congr decide_eq_true_iff ?_ rfl
  cases s.card? key <;> rfl

/-- A read of the Account Table: the account with its holds. -/
theorem readEntry_of_account {table : Nat} (s : State) (key : Nat) (ht : readTable table = some .account) :
    readEntry s table key =
      entryAnswer 999999 key (s.account? key) fun a => .account a (s.charge.holdsOf key) := by
  rw [readEntry, ht]
  refine if_congr decide_eq_true_iff ?_ rfl
  cases s.account? key <;> rfl

/-- A read of the Cabin Table: the cabin with the time left to its window and its override. -/
theorem readEntry_of_cabin {table : Nat} (s : State) (key : Nat) (ht : readTable table = some .cabin) :
    readEntry s table key =
      entryAnswer 9999 key (s.cabin? key) fun c => .cabin c (s.timeLeft c.windowEnd) (s.timeLeft c.overrideEnd) := by
  rw [readEntry, ht]
  refine if_congr decide_eq_true_iff ?_ rfl
  cases s.cabin? key <;> rfl

/-- The Status of a read is handed in the state it finds. -/
theorem answered_entryAnswer {α : Type} (s : State) (tag high key : Nat) (entry : Option α) (data : α → StatusData) :
    answered 13 tag (readOnly s (entryAnswer high key entry data)) =
      if 1 ≤ key ∧ key ≤ high then
        entry.elim (withStatus s 1 13 tag .notFound) fun x => withStatus s 1 13 tag .ok (data x)
      else withStatus s 1 13 tag .parameter := by
  unfold entryAnswer
  split_ifs
  · cases entry <;> rfl
  · rfl

/-- ENTRY_READ taken: the Status of the read in the state with the trunk Up, which stays. -/
theorem exec_entryRead {s : State} (hs : takes s) (tag table key : Nat) :
    exec (.entryRead tag table key) s = .next (answered 13 tag (readOnly (up s) (readEntry (up s) table key))) :=
  congrArg Host.Outcome.next (command_of_takes hs 13 tag _ (trunk_up_up s))

/-- Settles O10, by the table that is read and the entry found in it. -/
theorem entryReadReturnsTheWholeEntry : Obligations.EntryReadReturnsTheWholeEntry := by
  intro s tag table key hs
  refine (exec_entryRead hs ..).trans (congrArg Host.Outcome.next ?_)
  cases ht : readTable table with
  | none => rw [readEntry, ht]; rfl
  | some t =>
    cases t with
    | card =>
      rw [readEntry_of_card _ _ ht, answered_entryAnswer, card?_eq_find?]
      cases (up s).cards.find? fun e => e.data.number == key <;> rfl
    | account =>
      rw [readEntry_of_account _ _ ht, answered_entryAnswer, account?_eq_find?]
      cases (up s).charge.accounts.find? fun a => a.number == key <;> rfl
    | cabin =>
      rw [readEntry_of_cabin _ _ ht, answered_entryAnswer, cabin?_eq_find?]
      cases (up s).cabins.find? fun c => c.data.number == key <;> rfl

/-! ## PROTECTION_SET (R172) -/

/-- A range carried is out of form when an end is out of range or they are out of order (R172 case 1). -/
theorem rangeValid_eq_false_iff (range : Option (Nat × Nat)) :
    rangeValid range = false ↔
      (range.any fun r => !decide (1 ≤ r.1 ∧ r.1 ≤ r.2 ∧ r.2 ≤ 16777215)) = true := by
  cases range with
  | none => simp [rangeValid]
  | some r =>
    simp only [rangeValid, Config.maxCardNumber, Bool.and_eq_false_iff, inRange_one_eq_false_iff, Option.any_some,
      Bool.not_eq_true', decide_eq_false_iff_not]
    omega

/-- A permission that is Withdrawn is carried as Permitted (R172 case 2). -/
theorem regained_iff (p : Protection) (load purge rangeRewrite : Bool) :
    p.regained load purge rangeRewrite = true ↔
      (load = true ∧ p.load = false) ∨ (purge = true ∧ p.purge = false)
        ∨ (rangeRewrite = true ∧ p.rangeRewrite = false) := by
  simp [Protection.regained, or_assoc]

/-- Case 1 of R172: a permission out of its list. -/
theorem setProtection_of_unread {load purge rewrite : Nat} (s : State) (range : Option (Nat × Nat))
    (h : readPermission load = none ∨ readPermission purge = none ∨ readPermission rewrite = none) :
    setProtection s load purge rewrite range = (s, .parameter) := by
  unfold setProtection
  split
  case h_1 hlo hpu hrr => simp [hlo, hpu, hrr] at h
  case h_2 => rfl

/-- The other cases of R172, for three permissions that are read. -/
theorem setProtection_of_read {load purge rewrite : Nat} {lo pu rr : Bool} (s : State) (range : Option (Nat × Nat))
    (hlo : readPermission load = some lo) (hpu : readPermission purge = some pu)
    (hrr : readPermission rewrite = some rr) :
    setProtection s load purge rewrite range =
      let p := s.engine.protection
      if (range.any fun r => !decide (1 ≤ r.1 ∧ r.1 ≤ r.2 ∧ r.2 ≤ 16777215)) = true then (s, .parameter)
      else if (lo = true ∧ p.load = false) ∨ (pu = true ∧ p.purge = false)
          ∨ (rr = true ∧ p.rangeRewrite = false) then (s, .protect)
      else if range ≠ p.range ∧ p.rangeRewrite = false then (s, .protect)
      else (s.setEngine { s.engine with
        protection := { load := lo, purge := pu, rangeRewrite := rr, range := range } }, .ok) := by
  simp only [setProtection, hlo, hpu, hrr, rangeValid_eq_false_iff, regained_iff]

/-- Protection Set leaves the Trunk Port. -/
theorem trunk_setProtection (s : State) (load purge rewrite : Nat) (range : Option (Nat × Nat)) :
    (setProtection s load purge rewrite range).1.trunk = s.trunk := by
  unfold setProtection
  (repeat' split) <;> rfl

/-- PROTECTION_SET taken: the Status of the setting in the state with the trunk Up. -/
theorem exec_protectionSet {s : State} (hs : takes s) (tag load purge rewrite : Nat) (range : Option (Nat × Nat)) :
    exec (.protectionSet tag load purge rewrite range) s =
      .next (answered 31 tag (bare (setProtection (up s) load purge rewrite range))) := by
  refine congrArg Host.Outcome.next (command_of_takes hs 31 tag _ ?_)
  show (setProtection (up s) load purge rewrite range).1.trunk.up = true
  rw [trunk_setProtection, trunk_up_up]

/-! ## PROTECTION_RELEASE and PROTECTION_GET (R171, R173) -/

/-- Protection Release leaves the Trunk Port. -/
theorem trunk_releaseProtection (s : State) : (releaseProtection s).1.trunk = s.trunk := by
  unfold releaseProtection
  split <;> rfl

/-- PROTECTION_RELEASE taken: the Status of the release in the state with the trunk Up. -/
theorem exec_protectionRelease {s : State} (hs : takes s) (tag : Nat) :
    exec (.protectionRelease tag) s = .next (answered 33 tag (bare (releaseProtection (up s)))) := by
  refine congrArg Host.Outcome.next (command_of_takes hs 33 tag _ ?_)
  show (releaseProtection (up s)).1.trunk.up = true
  rw [trunk_releaseProtection, trunk_up_up]

/-- PROTECTION_GET taken: the Status of the record in the state with the trunk Up, which stays. -/
theorem exec_protectionGet {s : State} (hs : takes s) (tag : Nat) :
    exec (.protectionGet tag) s =
      .next (withStatus (up s) 1 32 tag .ok (.protection (up s).engine.protection (up s).cards.length)) :=
  congrArg Host.Outcome.next (command_of_takes hs 32 tag _ (trunk_up_up s))

/-- Settles O11, by the first case of R172 that applies, and by the Card Table that PROTECTION_RELEASE finds. -/
theorem protectionCommandsWithdrawRestoreReport : Obligations.ProtectionCommandsWithdrawRestoreReport := by
  refine ⟨fun s tag load purge rewrite range hs => ?setting,
    fun s tag hs => ⟨fun hempty => ?released, fun hcards => ?held, exec_protectionGet hs tag⟩⟩
  case setting =>
    refine (exec_protectionSet hs ..).trans (congrArg (fun r => Host.Outcome.next (answered 31 tag r)) ?_)
    cases hlo : readPermission load with
    | none => rw [setProtection_of_unread _ _ (.inl hlo), bare]
    | some lo =>
      cases hpu : readPermission purge with
      | none => rw [setProtection_of_unread _ _ (.inr (.inl hpu)), bare]
      | some pu =>
        cases hrr : readPermission rewrite with
        | none => rw [setProtection_of_unread _ _ (.inr (.inr hrr)), bare]
        | some rr =>
          rw [setProtection_of_read _ _ hlo hpu hrr]
          simp only [apply_ite bare]
          rfl
  case released =>
    rw [exec_protectionRelease hs, releaseProtection, if_pos hempty]
    rfl
  case held =>
    rw [exec_protectionRelease hs, releaseProtection, if_neg hcards]
    rfl

end Sys2Proof.Proofs

/-! PROOF. The Command Engine's settings: PROFILE_SET and PROFILE_READ (R194), and VESSEL_CODES_SET (R184). -/

namespace Sys2Proof.Proofs

open Sys2Proof.Machine Sys2Proof.Claims

/-! ## The profile that an offer carries (R190, R194) -/

/-- A count mode is read from its own code and from no other. -/
theorem readCountMode_eq_some_iff (n : Nat) (m : CountMode) : readCountMode n = some m ↔ m.code = n := by
  constructor
  · intro h
    unfold readCountMode at h
    split at h <;> cases h <;> rfl
  · rintro rfl
    cases m <;> rfl

/-- A policy is read from its own code and from no other. -/
theorem readPolicy_eq_some_iff (n : Nat) (p : Policy) : readPolicy n = some p ↔ p.code = n := by
  constructor
  · intro h
    unfold readPolicy at h
    split at h <;> cases h <;> rfl
  · rintro rfl
    cases p <;> rfl

/-- The profile that an offer carries, for the three codes as they are read. -/
def profileOf (o : ProfileOffer) (mode : CountMode) (opening passage : Policy) : Profile :=
  { openWindow := o.openWindow, entryGrace := o.entryGrace, holdLifetime := o.holdLifetime,
    terminalHoldLimit := o.terminalHoldLimit, confirmTimeout := o.confirmTimeout,
    referralTimeout := o.referralTimeout, repeatWindow := o.repeatWindow, missLimit := o.missLimit,
    loadGapTimeout := o.loadGapTimeout, dayBoundaryHour := o.dayBoundaryHour, countMode := mode,
    openFallback := opening, passageFallback := passage }

/-- An offer whose three codes are read gives its profile when that is legal. -/
theorem readProfile_eq_some_iff_of_read {o : ProfileOffer} {mode : CountMode} {opening passage : Policy}
    (hmode : readCountMode o.countMode = some mode) (hopening : readPolicy o.openFallback = some opening)
    (hpassage : readPolicy o.passageFallback = some passage) (p : Profile) :
    readProfile o = some p ↔
      (profileOf o mode opening passage).legal ∧ profileOf o mode opening passage = p := by
  simp only [readProfile, hmode, hopening, hpassage]
  rw [Option.ite_none_right_eq_some, Option.some_inj]
  refine and_congr ?_ Iff.rfl
  simp only [Profile.legal, profileOf, inRange, Bool.and_eq_true, Bool.not_eq_true', Bool.and_eq_false_iff,
    decide_eq_true_eq, beq_eq_false_iff_ne, Nat.zero_le, true_and, and_assoc, not_and_or]

/-- Profile Set reads from an offer the one legal profile that is carried as that offer. -/
theorem readProfile_eq_some_iff (o : ProfileOffer) (p : Profile) :
    readProfile o = some p ↔ p.legal ∧ offerOf p = o := by
  constructor
  · intro h
    have hread := h
    unfold readProfile at hread
    split at hread
    case h_1 mode opening passage hmode hopening hpassage =>
      obtain ⟨hlegal, rfl⟩ := (readProfile_eq_some_iff_of_read hmode hopening hpassage p).1 h
      rw [readCountMode_eq_some_iff] at hmode
      rw [readPolicy_eq_some_iff] at hopening hpassage
      refine ⟨hlegal, ?_⟩
      simp only [offerOf, profileOf, hmode, hopening, hpassage]
    case h_2 => cases hread
  · rintro ⟨hlegal, rfl⟩
    exact (readProfile_eq_some_iff_of_read ((readCountMode_eq_some_iff _ p.countMode).2 rfl)
      ((readPolicy_eq_some_iff _ p.openFallback).2 rfl) ((readPolicy_eq_some_iff _ p.passageFallback).2 rfl) p).2
      ⟨hlegal, rfl⟩

/-! ## PROFILE_SET and PROFILE_READ (R194) -/

/-- A legal profile is taken, and the next boundary is settled under its hour. -/
theorem setProfile_offerOf (s : State) {p : Profile} (hp : p.legal) :
    setProfile s (offerOf p) =
      (s.setEngine { s.engine with profile := p, voyage := s.engine.voyage.rebound p.dayBoundaryHour }, .ok) := by
  rw [setProfile, (readProfile_eq_some_iff _ _).2 ⟨hp, rfl⟩]

/-- An offer that carries no legal profile is refused. -/
theorem setProfile_of_not_offered (s : State) {o : ProfileOffer} (ho : ∀ p : Profile, p.legal → offerOf p ≠ o) :
    setProfile s o = (s, .parameter) := by
  unfold setProfile
  split
  case h_1 p hp =>
    obtain ⟨hlegal, hoffer⟩ := (readProfile_eq_some_iff _ _).1 hp
    exact absurd hoffer (ho p hlegal)
  case h_2 => rfl

/-- Profile Set leaves the Trunk Port. -/
theorem trunk_setProfile (s : State) (o : ProfileOffer) : (setProfile s o).1.trunk = s.trunk := by
  unfold setProfile
  split <;> rfl

/-- PROFILE_SET taken: the Status of the setting in the state with the trunk Up. -/
theorem exec_profileSet {s : State} (hs : takes s) (tag : Nat) (o : ProfileOffer) :
    exec (.profileSet tag o) s = .next (answered 3 tag (bare (setProfile (up s) o))) := by
  refine congrArg Host.Outcome.next (command_of_takes hs 3 tag _ ?_)
  show (setProfile (up s) o).1.trunk.up = true
  rw [trunk_setProfile, trunk_up_up]

/-- PROFILE_READ taken: the Status of the profile in the state with the trunk Up, which stays. -/
theorem exec_profileRead {s : State} (hs : takes s) (tag : Nat) :
    exec (.profileRead tag) s = .next (withStatus (up s) 1 4 tag .ok (.profile (up s).engine.profile)) :=
  congrArg Host.Outcome.next (command_of_takes hs 4 tag _ (trunk_up_up s))

/-! ## VESSEL_CODES_SET (R184) -/

/-- The model's test for a value that stands twice is the library's. -/
theorem distinct_iff_nodup (xs : List Nat) : distinct xs = true ↔ xs.Nodup := by
  induction xs with
  | nil => simp [distinct]
  | cons x xs ih => simp [distinct, ih]

/-- The four slots take the values carried, unless one code stands in two slots that are not empty. -/
theorem setVesselCodes_eq (s : State) (a b c d : Nat) :
    setVesselCodes s a b c d =
      if ([a, b, c, d].filter fun n => n != 0).Nodup then
        (s.setEngine { s.engine with vesselCodes := #v[slotOf a, slotOf b, slotOf c, slotOf d] }, .ok)
      else (s, .parameter) :=
  if_congr (distinct_iff_nodup _) rfl rfl

/-- Vessel Codes Set leaves the Trunk Port. -/
theorem trunk_setVesselCodes (s : State) (a b c d : Nat) : (setVesselCodes s a b c d).1.trunk = s.trunk := by
  unfold setVesselCodes
  split <;> rfl

/-- VESSEL_CODES_SET taken: the Status of the setting in the state with the trunk Up. -/
theorem exec_vesselCodesSet {s : State} (hs : takes s) (tag a b c d : Nat) :
    exec (.vesselCodesSet tag a b c d) s = .next (answered 10 tag (bare (setVesselCodes (up s) a b c d))) := by
  refine congrArg Host.Outcome.next (command_of_takes hs 10 tag _ ?_)
  show (setVesselCodes (up s) a b c d).1.trunk.up = true
  rw [trunk_setVesselCodes, trunk_up_up]

/-! ## The statement -/

/-- Settles O8, by whether the offer carries a legal profile, and by whether two slots share a code. -/
theorem profileAndVesselCodesAreSet : Obligations.ProfileAndVesselCodesAreSet := by
  refine ⟨fun s tag hs => ⟨fun p hp => ?legal, fun o ho => ?refused, exec_profileRead hs tag⟩,
    fun s tag a b c d hs => ?codes⟩
  case legal =>
    rw [exec_profileSet hs, setProfile_offerOf _ hp]
    rfl
  case refused =>
    rw [exec_profileSet hs, setProfile_of_not_offered _ ho]
    rfl
  case codes =>
    rw [exec_vesselCodesSet hs, setVesselCodes_eq, apply_ite bare]
    rfl

end Sys2Proof.Proofs

/-! PROOF. The Event Queue: EVENT_READ (R198), EVENT_KINDS (R196), and the arrival of a record (R197). -/

namespace Sys2Proof.Proofs

open Sys2Proof.Machine Sys2Proof.Claims

/-! ## The arrival of a record (R196, R197) -/

/-- A record of a disabled kind is not appended. -/
theorem arrive_of_disabled {q : EventQueue} {r : EventRecord} (h : q.enabled r.kind = false) : q.arrive r = q :=
  if_neg (Bool.eq_false_iff.1 h)

/-- Below 511 records, the record becomes the newest. -/
theorem arrive_of_room {q : EventQueue} {r : EventRecord} (h : q.enabled r.kind = true)
    (hroom : q.records.length < 511) : q.arrive r = { q with records := q.records ++ [r] } :=
  (if_pos h).trans (if_pos hroom)

/-- At 511 records, an Overflow that counts one stands in for the record, where its own kind is enabled. -/
theorem arrive_of_last_slot {q : EventQueue} {r : EventRecord} (h : q.enabled r.kind = true)
    (hlast : q.records.length = 511) :
    q.arrive r =
      if q.enabled .overflow then
        { q with records := q.records ++ [{ kind := .overflow, time := r.time, detail := some (.discarded 1) }] }
      else q :=
  (if_pos h).trans ((if_neg hlast.not_lt).trans (if_pos hlast))

/-- At 512 records of which the newest is Overflow, its count rises by one and stops at 65535. -/
theorem arrive_of_full_of_overflow {q : EventQueue} {r last : EventRecord} {rs : List EventRecord} {n : Nat}
    (h : q.enabled r.kind = true) (hrecords : q.records = rs ++ [last]) (hfull : rs.length = 511)
    (hkind : last.kind = .overflow) (hdetail : last.detail = some (.discarded n)) :
    q.arrive r =
      { q with records := rs ++ [{ last with detail := some (.discarded (min (n + 1) 65535)) }] } := by
  have hlength : q.records.length = 512 := by rw [hrecords, List.length_append, hfull]; rfl
  have hroom : ¬q.records.length < Config.maxEvents - 1 := by rw [hlength]; decide
  have hslot : ¬q.records.length = Config.maxEvents - 1 := by rw [hlength]; decide
  rw [EventQueue.arrive, if_pos h, if_neg hroom, if_neg hslot]
  simp only [hrecords, List.getLast?_concat, hkind, hdetail, List.dropLast_concat]
  rfl

/-! ## EVENT_READ (R198) -/

/-- The oldest records leave the queue with their number still held, where the count is in its range. -/
theorem readEvents_eq (s : State) (count : Nat) :
    readEvents s count =
      if count = 0 ∨ 8 < count then (s, .parameter, .none)
      else (s.setEvents { s.events with records := s.events.records.drop count }, .ok,
        .events (s.events.records.take count) (s.events.records.length - count)) := by
  rw [if_congr (inRange_one_eq_false_iff 8 count).symm rfl rfl, readEvents, ← List.length_drop]
  cases inRange 1 8 count <;> rfl

/-- Event Read leaves the Trunk Port. -/
theorem trunk_readEvents (s : State) (count : Nat) : (readEvents s count).1.trunk = s.trunk := by
  rw [readEvents_eq]
  split <;> rfl

/-- EVENT_READ taken: the Status of the read in the state with the trunk Up. -/
theorem exec_eventRead {s : State} (hs : takes s) (tag count : Nat) :
    exec (.eventRead tag count) s = .next (answered 29 tag (readEvents (up s) count)) := by
  refine congrArg Host.Outcome.next (command_of_takes hs 29 tag _ ?_)
  rw [trunk_readEvents, trunk_up_up]

/-! ## EVENT_KINDS (R196) -/

/-- The value that carries an enable. -/
def enableCode (b : Bool) : Nat := if b then 1 else 2

/-- The enables are read from their own 28 values. -/
theorem readEnables_enableCode (e : Vector Bool 28) : readEnables (e.toList.map enableCode) = some e := by
  have hvalues : (e.toList.map enableCode).length = 28 ∧
      (e.toList.map enableCode).all (fun v => v == 1 || v == 2) = true := by
    refine ⟨by simp, List.all_eq_true.2 fun v hv => ?_⟩
    obtain ⟨b, -, rfl⟩ := List.mem_map.1 hv
    cases b <;> rfl
  have hread : ∀ b : Bool, (enableCode b == 1) = b := by decide
  rw [readEnables, if_pos hvalues]
  refine congrArg some (Vector.ext fun i hi => ?_)
  simp [List.getD_eq_getElem?_getD, hread]

/-- No enables are read from another number of values, nor where a value is neither Enabled nor Disabled. -/
theorem readEnables_eq_none {values : List Nat} (h : values.length ≠ 28 ∨ ∃ v ∈ values, v ≠ 1 ∧ v ≠ 2) :
    readEnables values = none := by
  refine if_neg fun ⟨hlength, hall⟩ => ?_
  obtain hlength' | ⟨v, hv, hv1, hv2⟩ := h
  · exact hlength' hlength
  · have hcode := List.all_eq_true.1 hall v hv
    rw [Bool.or_eq_true, beq_iff_eq, beq_iff_eq] at hcode
    exact hcode.elim hv1 hv2

/-- Event Kinds leaves the Trunk Port. -/
theorem trunk_setEventKinds (s : State) (values : List Nat) : (setEventKinds s values).1.trunk = s.trunk := by
  unfold setEventKinds
  split <;> rfl

/-- EVENT_KINDS taken: the Status of the setting in the state with the trunk Up. -/
theorem exec_eventKinds {s : State} (hs : takes s) (tag : Nat) (values : List Nat) :
    exec (.eventKinds tag values) s = .next (answered 30 tag (bare (setEventKinds (up s) values))) := by
  refine congrArg Host.Outcome.next (command_of_takes hs 30 tag _ ?_)
  show (setEventKinds (up s) values).1.trunk.up = true
  rw [trunk_setEventKinds, trunk_up_up]

/-! ## The statements -/

/-- Settles O13, by the count in and out of its range, and by whether the values carry 28 enables. -/
theorem eventCommandsReadAndReplaceEnables : Obligations.EventCommandsReadAndReplaceEnables := by
  refine ⟨fun s tag count hs => ⟨fun hlow hhigh => ?read, fun hbad => ?readRefused⟩,
    fun s tag hs => ⟨fun e => ?kinds, fun values hbad => ?kindsRefused⟩⟩
  case read =>
    rw [exec_eventRead hs, readEvents_eq, if_neg (by omega)]
    rfl
  case readRefused =>
    rw [exec_eventRead hs, readEvents_eq, if_pos hbad]
    rfl
  case kinds =>
    have hread : readEnables (e.toList.map fun b => if b then 1 else 2) = some e := readEnables_enableCode e
    rw [exec_eventKinds hs, setEventKinds, hread]
    rfl
  case kindsRefused =>
    rw [exec_eventKinds hs, setEventKinds, readEnables_eq_none hbad]
    rfl

/-- Settles O14, by the number of records held. -/
theorem eventArrivalFollowsTheRecordsHeld : Obligations.EventArrivalFollowsTheRecordsHeld := by
  refine fun q r => ⟨arrive_of_disabled, fun h => ⟨fun hlen => arrive_of_room h (Nat.lt_succ_of_le hlen),
    fun hlen hover => ?overflow, fun hlen hover => ?noOverflow,
    fun rs last n hrecords hfull hkind hdetail => arrive_of_full_of_overflow h hrecords hfull hkind hdetail⟩⟩
  case overflow => exact (arrive_of_last_slot h hlen).trans (if_pos hover)
  case noOverflow => exact (arrive_of_last_slot h hlen).trans (if_neg (Bool.eq_false_iff.1 hover))

end Sys2Proof.Proofs

/-! PROOF. Every step keeps the accounts: caps, held totals and hold tags (R66, R72, R73). -/

namespace Sys2Proof.Proofs

open Sys2Proof.Machine Sys2Proof.Claims

/-! ## Lookups in changed tables -/

section Tables
variable {α : Type} (key : α → Nat)

/-- An entry of another key stays where the entry of a key is removed. -/
theorem lookup_erase_other {k n : Nat} (h : k ≠ n) (t : List α) :
    lookup key k (erase key n t) = lookup key k t := by
  induction t with
  | nil => rfl
  | cons y ys ih =>
    by_cases hn : key y = n
    · have hk : ¬key y = k := fun e => h (e.symm.trans hn)
      simpa [erase, lookup, hn, hk, Ne.symm h] using ih
    · by_cases hk : key y = k
      · simp [erase, lookup, hk, h]
      · simpa [erase, lookup, hn, hk] using ih

/-- A change that keeps every key is seen in the entry of each key. -/
theorem lookup_map {f : α → α} (hf : ∀ x, key (f x) = key x) (k : Nat) (t : List α) :
    lookup key k (t.map f) = (lookup key k t).map f := by
  have hcomp : ((fun x => key x == k) ∘ f) = fun x => key x == k := funext fun x => congrArg (· == k) (hf x)
  simp only [lookup, List.find?_map, hcomp]

/-- An entry is found in a table that has taken another one where it was found before. -/
theorem lookup_isSome_put {k : Nat} {t : List α} (x : α) (h : (lookup key k t).isSome) :
    (lookup key k (put key x t)).isSome := by
  by_cases hk : k = key x
  · rw [hk, lookup_put_self]; rfl
  · rwa [lookup_put_other key hk]

end Tables

/-! ## Sums over holds -/

/-- The held amounts of an account when a hold is added. -/
theorem heldBy_append (hs : List Hold) (x : Hold) (n : Nat) :
    (((hs ++ [x]).filter fun h => h.account == n).map Hold.amount).sum =
      ((hs.filter fun h => h.account == n).map Hold.amount).sum + (if x.account = n then x.amount else 0) := by
  by_cases hx : x.account = n <;> simp [hx]

/-- A hold leaves a list of holds with tags apart: each account loses the amount of its own. -/
theorem heldBy_remove {hs : List Hold} {x : Hold} (htags : (hs.map Hold.tag).Nodup) (hx : x ∈ hs) (n : Nat) :
    (((hs.filter fun h => h.tag != x.tag).filter fun h => h.account == n).map Hold.amount).sum
        + (if x.account = n then x.amount else 0) =
      ((hs.filter fun h => h.account == n).map Hold.amount).sum := by
  induction hs with
  | nil => cases hx
  | cons y ys ih =>
    obtain ⟨hy, hys⟩ := List.nodup_cons.1 (List.map_cons ▸ htags)
    rcases List.mem_cons.1 hx with rfl | hmem
    · have hkeep : (ys.filter fun h => h.tag != x.tag) = ys :=
        List.filter_eq_self.2 fun h hh => bne_iff_ne.2 fun e => hy (e ▸ List.mem_map_of_mem hh)
      rw [List.filter_cons_of_neg (by simp), hkeep, List.filter_cons]
      by_cases hn : x.account = n
      · simp [hn, Nat.add_comm]
      · simp [hn]
    · have hne : y.tag ≠ x.tag := fun e => hy (e ▸ List.mem_map_of_mem hmem)
      have := ih hys hmem
      rw [List.filter_cons_of_pos (by simpa using hne)]
      by_cases hn : y.account = n
      · rw [List.filter_cons_of_pos (by simpa using hn), List.filter_cons_of_pos (by simpa using hn),
          List.map_cons, List.map_cons, List.sum_cons, List.sum_cons]
        omega
      · rwa [List.filter_cons_of_neg (by simpa using hn), List.filter_cons_of_neg (by simpa using hn)]

/-! ## The invariant on the Charge Unit -/

/-- What `State.accountsKept` says of an account beside its place in the table. -/
def accountSound (c : ChargeUnit) (a : Account) : Prop :=
  a.heldTotal = c.heldBy a.number ∧ a.voyageSpent + a.heldTotal ≤ a.voyageCap ∧
    a.dailySpent + a.heldTotal ≤ a.dailyCap

theorem tags_nodup_of_accountsKept {s : State} (h : s.accountsKept) : (s.charge.holds.map Hold.tag).Nodup := by
  obtain ⟨-, -, htags, -⟩ := h
  exact htags

theorem account?_isSome_of_accountsKept {s : State} (h : s.accountsKept) {x : Hold} (hx : x ∈ s.charge.holds) :
    (s.account? x.account).isSome := by
  obtain ⟨-, -, -, hacc, -⟩ := h
  exact hacc x hx

/-- An account takes its number's place, sound as it is. -/
theorem accountsKept_put {s : State} (h : s.accountsKept) {b : Account} (hb : accountSound s.charge b) :
    (s.setCharge { s.charge with accounts := put Account.number b s.charge.accounts }).accountsKept := by
  obtain ⟨hasc, hlen, htags, hacc, hsound⟩ := h
  refine ⟨ascending_put _ b hasc, hlen, htags, fun x hx => lookup_isSome_put _ b (hacc x hx), fun a ha => ?_⟩
  rcases mem_put _ ha with rfl | ha
  · exact hb
  · exact hsound a ha

/-- An account that is found is sound. -/
theorem accountSound_of_account? {s : State} (h : s.accountsKept) {n : Nat} {a : Account}
    (ha : s.account? n = some a) : accountSound s.charge a := by
  obtain ⟨-, -, -, -, hsound⟩ := h
  exact hsound a (lookup_some_mem _ ha)

/-- No hold names an account that is not there. -/
theorem heldBy_eq_zero {s : State} (h : s.accountsKept) {n : Nat} (hn : s.account? n = none) :
    s.charge.heldBy n = 0 := by
  have hnone : s.charge.holdsOf n = [] := List.filter_eq_nil_iff.2 fun x hx hacc => by
    have := account?_isSome_of_accountsKept h hx
    rw [beq_iff_eq.1 hacc, hn] at this
    cases this
  simp [ChargeUnit.heldBy, hnone]

/-- Account, tag and amount of every hold kept, the accounts stay sound. -/
theorem accountsKept_mapHolds {s : State} (h : s.accountsKept) {f : Hold → Hold}
    (hf : ∀ x, (f x).account = x.account ∧ (f x).tag = x.tag ∧ (f x).amount = x.amount) :
    (s.setCharge { s.charge with holds := s.charge.holds.map f }).accountsKept := by
  obtain ⟨hasc, hlen, htags, hacc, hsound⟩ := h
  have htag : (s.charge.holds.map f).map Hold.tag = s.charge.holds.map Hold.tag := by
    rw [List.map_map]; exact List.map_congr_left fun x _ => (hf x).2.1
  have hheld : ∀ n, ({ s.charge with holds := s.charge.holds.map f } : ChargeUnit).heldBy n = s.charge.heldBy n := by
    intro n
    simp only [ChargeUnit.heldBy, ChargeUnit.holdsOf, List.filter_map, List.map_map]
    rw [show ((fun h : Hold => h.account == n) ∘ f) = fun h => h.account == n from
      funext fun x => congrArg (· == n) (hf x).1]
    exact congrArg List.sum (List.map_congr_left fun x _ => (hf x).2.2)
  refine ⟨hasc, ?_, ?_, fun x hx => ?_, fun a ha => ?_⟩
  · simpa using hlen
  · simpa only [State.charge_setCharge, htag] using htags
  · obtain ⟨y, hy, rfl⟩ := List.mem_map.1 hx
    rw [(hf y).1]
    exact hacc y hy
  · obtain ⟨h1, h2⟩ := hsound a ha
    exact ⟨h1.trans (hheld _).symm, h2⟩

/-! ## The claims on accounts (R68-R70, R165) -/

/-- An account takes the caps and spent values of an offer only where its held total leaves room for them. -/
theorem accountsKept_offerAccount {s : State} (o : AccountOffer) (h : s.accountsKept) :
    (offerAccount s o).1.accountsKept := by
  unfold offerAccount
  split
  · exact h
  split
  · rename_i a ha
    obtain ⟨hheld, -, -⟩ := accountSound_of_account? h ha
    dsimp only
    split; · exact h
    split; · exact h
    split; · exact h
    exact accountsKept_put h ⟨hheld, by dsimp only; omega, by dsimp only; omega⟩
  · rename_i ha
    dsimp only
    split; · exact h
    split; · exact h
    split; · exact h
    exact accountsKept_put h ⟨(heldBy_eq_zero h ha).symm, by dsimp only; omega, by dsimp only; omega⟩

theorem accountsKept_purgeAccount {s : State} (n : Nat) (h : s.accountsKept) :
    (purgeAccount s n).1.accountsKept := by
  unfold purgeAccount
  split; · exact h
  split; · exact h
  split; · exact h
  rename_i hnone
  obtain ⟨hasc, hlen, htags, hacc, hsound⟩ := h
  refine ⟨ascending_erase _ n hasc, hlen, htags, fun x hx => ?_, fun a ha => hsound a (List.mem_filter.1 ha).1⟩
  have hne : x.account ≠ n := fun e => hnone (by
    rw [Ne, ChargeUnit.holdsOf, List.filter_eq_nil_iff]
    exact fun hall => hall x hx (beq_iff_eq.2 e))
  show (lookup _ _ (erase _ _ _)).isSome
  rw [lookup_erase_other _ hne]
  exact hacc x hx

theorem accountsKept_writeAccount {s : State} (n : Nat) (st v d : Option Nat) (h : s.accountsKept) :
    (writeAccount s n st v d).1.accountsKept := by
  unfold writeAccount
  split; · exact h
  split; · exact h
  rename_i a ha
  obtain ⟨hheld, hvoyage, hdaily⟩ := accountSound_of_account? h ha
  split; · exact h
  rename_i hv
  split; · exact h
  rename_i hd
  split; · exact h
  refine accountsKept_put h ⟨hheld, ?_, ?_⟩
  · cases v with
    | none => exact hvoyage
    | some c => simpa using hv
  · cases d with
    | none => exact hdaily
    | some c => simpa using hd

/-! ## Holds made and ended (R72, R75-R80) -/

/-- A hold on an account whose caps leave room for its amount (R74 checks 9, 11 and 12). -/
theorem accountsKept_createHold {s : State} (st : Station) (card : Nat) {a : Account} {amount : Nat} (goods : Goods)
    (reference : Nat) (ha : s.account? a.number = some a) (hlen : s.charge.holds.length < Config.maxHolds)
    (hvoyage : a.voyageSpent + a.heldTotal + amount ≤ a.voyageCap)
    (hdaily : a.dailySpent + a.heldTotal + amount ≤ a.dailyCap) (h : s.accountsKept) :
    (s.createHold st card a amount goods reference).1.accountsKept := by
  obtain ⟨hasc, -, htags, hacc, hsound⟩ := h
  have hfree : (s.charge.holds.map Hold.tag).length < Config.maxWord16 := by
    rw [List.length_map]; exact hlen.trans (by decide)
  obtain ⟨hnew, -⟩ := nextTag_given (s.charge.holds.map Hold.tag) s.charge.lastTag hfree
  rw [List.length_map] at hnew
  have hheld : a.heldTotal = s.charge.heldBy a.number := (hsound a (lookup_some_mem _ ha)).1
  refine ⟨ascending_put _ _ hasc, ?_, ?_, fun x hx => ?_, fun b hb => ?_⟩
  · simpa [State.createHold] using hlen
  · simp only [State.createHold, State.charge_setCharge, List.map_append, List.map_cons, List.map_nil]
    exact List.nodup_append.2 ⟨htags, List.nodup_singleton _, fun x hx y hy e => hnew
      (List.mem_singleton.1 hy ▸ e ▸ hx)⟩
  · rcases List.mem_append.1 hx with hx | hx
    · exact lookup_isSome_put _ _ (hacc x hx)
    · rw [List.mem_singleton.1 hx]
      exact lookup_isSome_put _ _ (Option.isSome_iff_exists.2 ⟨a, ha⟩)
  · rcases mem_put_ne _ hasc hb with rfl | ⟨hb, hne⟩
    · refine ⟨?_, by dsimp only; omega, by dsimp only; omega⟩
      refine Eq.trans ?_ (heldBy_append ..).symm
      simp only [if_true, hheld]
      rfl
    · obtain ⟨h1, h2⟩ := hsound b hb
      refine ⟨h1.trans (Eq.trans ?_ (heldBy_append ..).symm), h2⟩
      rw [if_neg (Ne.symm hne)]
      rfl

theorem accountsKept_authorizeOn {s : State} (st : Station) (e : CardEntry) (a : Account) (amount : Nat) (g : Goods)
    (r : Nat) (ha : s.account? a.number = some a) (h : s.accountsKept) :
    (authorizeOn s st e a amount g r).1.accountsKept := by
  unfold authorizeOn
  split; · exact h
  split; · exact h
  split; · exact h
  split; · exact h
  split; · exact h
  rename_i hlimit
  split; · exact h
  split; · exact h
  rename_i hcap
  split; · exact h
  rename_i hdaily
  exact accountsKept_createHold st _ g r ha (by omega) (Nat.not_lt.1 hcap) (Nat.not_lt.1 hdaily) h

/-- The end of a hold of the model is that of the statements (R77-R79). -/
theorem endHold_eq_holdEnded (s : State) (x : Hold) (k : JournalKind) (amount charged : Nat) :
    s.endHold x k amount charged = holdEnded s x k amount charged := by
  unfold State.endHold holdEnded ChargeUnit.modifyAccount State.account?
  cases lookup Account.number x.account s.charge.accounts <;> rfl

/-- A hold that leaves charges its account no more than it held. -/
theorem accountsKept_endHold {s : State} {x : Hold} (k : JournalKind) (amount : Nat) {charged : Nat}
    (hx : x ∈ s.charge.holds) (hcharged : charged ≤ x.amount) (h : s.accountsKept) :
    (s.endHold x k amount charged).accountsKept := by
  obtain ⟨hasc, hlen, htags, hacc, hsound⟩ := h
  obtain ⟨a, ha⟩ := Option.isSome_iff_exists.1 (hacc x hx)
  have hnumber : a.number = x.account := State.account?_number ha
  rw [endHold_eq_holdEnded]
  simp only [holdEnded, ha]
  have hremove := heldBy_remove htags hx
  refine ⟨ascending_put _ _ hasc, (List.length_filter_le ..).trans hlen,
    htags.sublist (List.filter_sublist.map _),
    fun y hy => lookup_isSome_put _ _ (hacc y (List.mem_filter.1 hy).1), fun b hb => ?_⟩
  rcases mem_put_ne _ hasc hb with rfl | ⟨hb, hne⟩
  · obtain ⟨h1, h2, h3⟩ := hsound a (lookup_some_mem _ ha)
    have hsum := hremove a.number
    rw [if_pos hnumber.symm] at hsum
    have hheld : a.heldTotal = ((s.charge.holds.filter fun h => h.account == a.number).map Hold.amount).sum := h1
    refine ⟨?_, by dsimp only; omega, by dsimp only; omega⟩
    show a.heldTotal - x.amount = (((s.charge.holds.filter fun h => h.tag != x.tag).filter
      fun h => h.account == a.number).map Hold.amount).sum
    omega
  · obtain ⟨h1, h2⟩ := hsound b hb
    refine ⟨h1.trans ?_, h2⟩
    have hsum := hremove b.number
    rw [if_neg fun e : x.account = b.number => hne (e.symm.trans hnumber.symm), Nat.add_zero] at hsum
    exact hsum.symm

/-- Holds with tags apart lapse one after another, each of them still outstanding when its turn comes (R87). -/
theorem lapseAll_keeps {P : State → Prop}
    (hend : ∀ {s : State} {x : Hold}, x ∈ s.charge.holds → P s → P (s.endHold x .lapsed x.amount 0))
    (hs : List Hold) {s : State} (htags : (hs.map Hold.tag).Nodup) (hmem : ∀ x ∈ hs, x ∈ s.charge.holds) (h : P s) :
    P (lapseAll hs s) := by
  induction hs generalizing s with
  | nil => exact h
  | cons x xs ih =>
    obtain ⟨hx, hxs⟩ := List.nodup_cons.1 (List.map_cons ▸ htags)
    refine ih hxs (fun y hy => ?_) (hend (hmem x List.mem_cons_self) h)
    have hne : y.tag ≠ x.tag := fun e => hx (e ▸ List.mem_map_of_mem hy)
    rw [endHold_eq_holdEnded]
    exact List.mem_filter.2 ⟨hmem y (List.mem_cons_of_mem _ hy), bne_iff_ne.2 hne⟩

/-- The daily spent values are cleared (R85). -/
theorem accountsKept_clearDaily {s : State} (h : s.accountsKept) :
    (s.setCharge { s.charge with
      accounts := s.charge.accounts.map fun a => { a with dailySpent := 0 } }).accountsKept := by
  obtain ⟨hasc, hlen, htags, hacc, hsound⟩ := h
  refine ⟨ascending_map _ ?_ hasc, hlen, htags, fun x hx => ?_, fun b hb => ?_⟩
  · exact fun _ => rfl
  · refine Eq.trans (congrArg Option.isSome (lookup_map Account.number ?_ _ _)) ?_
    · exact fun _ => rfl
    · rw [Option.isSome_map]
      exact hacc x hx
  · obtain ⟨a, ha, rfl⟩ := List.mem_map.1 hb
    obtain ⟨h1, h2, h3⟩ := hsound a ha
    exact ⟨h1, h2, by dsimp only; omega⟩

/-! ## The statement -/

theorem execClosed_accountsKept : ExecClosed State.accountsKept where
  offerAccount o h := accountsKept_offerAccount o h
  purgeAccount n h := accountsKept_purgeAccount n h
  writeAccount n a b c h := accountsKept_writeAccount n a b c h
  authorize st e a amount g r _ ha h := accountsKept_authorizeOn st e a amount g r ha h
  endHold _ k amount _ hx hcharged h := accountsKept_endHold k amount hx hcharged h
  clearDaily h := accountsKept_clearDaily h
  lapseAll h := lapseAll_keeps (fun hx h => accountsKept_endHold _ _ hx (Nat.zero_le _) h) _
    (tags_nodup_of_accountsKept h) (fun _ hx => hx) h
  detach st h := accountsKept_mapHolds h fun x => by split <;> exact ⟨rfl, rfl, rfl⟩
  cold c l _ := ⟨rfl, Nat.zero_le _, List.nodup_nil, List.forall_mem_nil _, List.forall_mem_nil _⟩

/-- Settles O33: the invariant is kept by every primitive change, and the tick counts down lifetimes alone. -/
theorem everyStepKeepsTheAccounts : Obligations.EveryStepKeepsTheAccounts := fun s t h hs =>
  step_closed execClosed_accountsKept (fun _ h => h) (fun h => accountsKept_mapHolds h fun _ => ⟨rfl, rfl, rfl⟩) s t h hs

end Sys2Proof.Proofs

/-! PROOF. Every step keeps the presence counters equal to the cards they count (R106, R119). -/

namespace Sys2Proof.Proofs

open Sys2Proof.Machine Sys2Proof.Claims

/-! ## The presence counters (R106) -/

theorem PresenceCounts.get_put (x : PresenceCounts) (p q : Presence) (n : Nat) :
    (x.put p n).get q = if q = p then n else x.get q := by
  cases p <;> cases q <;> rfl

theorem Counters.get_put (c : Counters) (k l : HolderClass) (x : PresenceCounts) :
    (c.put k x).get l = if l = k then x else c.get l := by
  cases k <;> cases l <;> rfl

/-- A counter after one of them has taken a value. -/
theorem Counters.count_put (c : Counters) (k l : HolderClass) (p q : Presence) (n : Nat) :
    (c.put k ((c.get k).put p n)).count l q = if l = k ∧ q = p then n else c.count l q := by
  unfold Counters.count
  rw [Counters.get_put]
  by_cases hl : l = k
  · subst hl
    simp only [if_true, PresenceCounts.get_put, true_and]
  · simp only [hl, if_false, false_and]

theorem Counters.count_raise (c : Counters) (k l : HolderClass) (p q : Presence) :
    (c.raise k p).count l q = c.count l q + if l = k ∧ q = p then 1 else 0 := by
  rw [Counters.raise, Counters.count_put]
  split
  · rename_i h; rw [h.1, h.2]
  · rfl

theorem Counters.count_lower (c : Counters) (k l : HolderClass) (p q : Presence) :
    (c.lower k p).count l q = c.count l q - if l = k ∧ q = p then 1 else 0 := by
  rw [Counters.lower, Counters.count_put]
  split
  · rename_i h; rw [h.1, h.2]
  · rfl

/-! ## Claims on the Card Table -/

/-- A member that satisfies a test is counted by it. -/
theorem one_le_length_filter {α : Type} (q : α → Bool) {x : α} {t : List α} (hx : x ∈ t) :
    (if q x = true then 1 else 0) ≤ (t.filter q).length := by
  split
  · rename_i hq
    exact List.length_pos_of_mem (List.mem_filter.2 ⟨hx, hq⟩)
  · exact Nat.zero_le _

/-- The card is counted by the counter of a class and a presence. -/
def countedBy (c : HolderClass) (p : Presence) (e : CardEntry) : Bool := e.data.cls == c && e.presence == p

theorem countedBy_iff (c : HolderClass) (p : Presence) (e : CardEntry) :
    countedBy c p e = true ↔ c = e.data.cls ∧ p = e.presence := by
  rw [countedBy, Bool.and_eq_true, beq_iff_eq, beq_iff_eq, eq_comm, @eq_comm _ e.presence]

/-- An entry takes the place of one of its class and presence: no counter moves. -/
theorem countersAgree_replace_same {s : State} {e e' : CardEntry} (he : s.card? e'.data.number = some e)
    (hcls : e'.data.cls = e.data.cls) (hpresence : e'.presence = e.presence) (h : s.countersAgree) :
    (s.setCards (put CardEntry.key e' s.cards)).countersAgree := by
  obtain ⟨hasc, hcount⟩ := h
  refine ⟨ascending_put _ _ hasc, fun c p => (hcount c p).trans ?_⟩
  have hput := filter_put_old CardEntry.key (countedBy c p) e' e hasc he
  have hsame : countedBy c p e' = countedBy c p e := by rw [countedBy, countedBy, hcls, hpresence]
  rw [hsame] at hput
  exact (Nat.add_right_cancel hput).symm

/-- An entry takes the place of another: the counters of the two move. -/
theorem countersAgree_replace {s : State} {e e' : CardEntry} (he : s.card? e'.data.number = some e)
    (h : s.countersAgree) :
    ((s.setCards (put CardEntry.key e' s.cards)).setCounters
      ((s.passage.counters.lower e.data.cls e.presence).raise e'.data.cls e'.presence)).countersAgree := by
  obtain ⟨hasc, hcount⟩ := h
  refine ⟨ascending_put _ _ hasc, fun c p => ?_⟩
  have hput := filter_put_old CardEntry.key (countedBy c p) e' e hasc he
  have hone := one_le_length_filter (countedBy c p) (lookup_some_mem _ he)
  simp only [countedBy_iff] at hput hone
  have hold : s.passage.counters.count c p = (s.cards.filter (countedBy c p)).length := hcount c p
  show ((s.passage.counters.lower e.data.cls e.presence).raise e'.data.cls e'.presence).count c p =
    ((put CardEntry.key e' s.cards).filter (countedBy c p)).length
  rw [Counters.count_raise, Counters.count_lower]
  omega

theorem countersAgree_insertCard {s : State} (d : CardData) (p : Presence) (hnew : s.card? d.number = none)
    (h : s.countersAgree) : (s.insertCard d p).countersAgree := by
  obtain ⟨hasc, hcount⟩ := h
  refine ⟨ascending_put _ _ hasc, fun c q => ?_⟩
  have hput := filter_put_new CardEntry.key (countedBy c q)
    { data := d, presence := p, stamp := 0, mark := .unmarked } hasc hnew
  simp only [countedBy_iff] at hput
  exact (Counters.count_raise ..).trans ((congrArg (· + _) (hcount c q)).trans hput.symm)

theorem countersAgree_removeCard {s : State} (e : CardEntry) (he : s.card? e.data.number = some e)
    (h : s.countersAgree) : (s.removeCard e).countersAgree := by
  obtain ⟨hasc, hcount⟩ := h
  refine ⟨ascending_erase _ _ hasc, fun c p => ?_⟩
  have herase := filter_erase CardEntry.key (countedBy c p) e hasc he
  simp only [countedBy_iff] at herase
  have hold : s.passage.counters.count c p = (s.cards.filter (countedBy c p)).length := hcount c p
  show (s.passage.counters.lower e.data.cls e.presence).count c p =
    ((erase CardEntry.key e.data.number s.cards).filter (countedBy c p)).length
  rw [Counters.count_lower]
  omega

theorem countersAgree_setPresence {s : State} (e : CardEntry) (p : Presence) (n : Nat)
    (he : s.card? e.data.number = some e) (h : s.countersAgree) : (s.setPresence e p n).countersAgree := by
  unfold State.setPresence
  dsimp only
  split
  · rename_i hsame
    exact countersAgree_replace_same (e' := { e with presence := p, stamp := n }) he rfl hsame.symm h
  · exact countersAgree_replace (e' := { e with presence := p, stamp := n }) he h

theorem countersAgree_rewriteCard {s : State} (e : CardEntry) (d : CardData) (he : s.card? d.number = some e)
    (h : s.countersAgree) : (s.rewriteCard e d).countersAgree := by
  unfold State.rewriteCard
  dsimp only
  split
  · rename_i hsame
    exact countersAgree_replace_same (e' := { e with data := d }) he hsame.symm rfl h
  · have hmoved := countersAgree_replace (e' := { e with data := d }) he h
    unfold State.moveRoll
    split
    · split <;> exact hmoved
    · exact hmoved

theorem countersAgree_commitPassage {s : State} (p : Passage) (h : s.countersAgree) :
    (s.commitPassage p).countersAgree := by
  unfold State.commitPassage
  dsimp only
  split
  · unfold State.countUntracked
    split <;> exact h
  · split
    · rename_i e he
      exact countersAgree_setPresence _ _ _ ((lookup_number he).symm ▸ he) h
    · exact h

/-! ## The start of a muster (R114, R126) -/

/-- Abandoning passages removes those of their gates. -/
theorem passages_abandonAll (ps : List Passage) (s : State) :
    (abandonAll ps s).passage.passages =
      s.passage.passages.filter fun q => ps.all fun p => q.gate != p.gate := by
  induction ps generalizing s with
  | nil => exact (List.filter_eq_self.2 fun _ _ => rfl).symm
  | cons p ps ih =>
    have hstep : (s.abandonPassage p.gate .abandonedMuster).passage.passages =
        s.passage.passages.filter fun q => q.gate != p.gate := by
      unfold State.abandonPassage
      split
      · rename_i hnone
        refine (List.filter_eq_self.2 fun q hq => ?_).symm
        simpa using List.find?_eq_none.1 hnone q hq
      · rfl
    rw [abandonAll, ih, hstep, List.filter_filter]
    refine List.filter_congr fun q _ => ?_
    rw [List.all_cons, Bool.and_comm]

/-- The muster as it stands at its start (R126). -/
def musterBegun (s : State) (m : MusterState) : MusterUnit :=
  { s.muster with
    state := m, startTime := some s.engine.voyage.time
    alertTime := if m = .alert then some s.engine.voyage.time else none
    roll := Vector.replicate 32 RollRow.zero }

/-- A card whose mark has been taken away. -/
def unmarked (e : CardEntry) : CardEntry := { e with mark := .unmarked }

/-- The start of a muster sets the Muster Unit and the marks, and leaves of the pending passages those of gates
without an Outbound one. -/
theorem enterMuster_frame (s : State) (m : MusterState) (d : Detail) :
    ∃ q, s.enterMuster m d =
      (((s.setMuster (musterBegun s m)).setCards (s.cards.map unmarked)).setPassages
        (s.passage.passages.filter fun q =>
          (s.passage.passages.filter fun p => p.direction == .outbound).all fun p => q.gate != p.gate)).setEvents q := by
  let t := ((s.setMuster (musterBegun s m)).setCards (s.cards.map unmarked)).report
    { kind := .musterStarted, detail := some d }
  obtain ⟨l, q, h⟩ := abandonAll_eq (t.passage.passages.filter fun p => p.direction == .outbound) t
  have hpassages := passages_abandonAll (t.passage.passages.filter fun p => p.direction == .outbound) t
  rw [h] at hpassages
  exact ⟨q, h.trans (congrArg (fun l => (t.setPassages l).setEvents q) hpassages)⟩

theorem countersAgree_enterMuster {s : State} (m : MusterState) (d : Detail) (h : s.countersAgree) :
    (s.enterMuster m d).countersAgree := by
  obtain ⟨hasc, hcount⟩ := h
  obtain ⟨q, heq⟩ := enterMuster_frame s m d
  rw [heq]
  refine ⟨ascending_map (f := unmarked) _ (fun _ => rfl) hasc, fun c p => (hcount c p).trans ?_⟩
  show _ = ((s.cards.map unmarked).filter (countedBy c p)).length
  rw [List.filter_map, List.length_map]
  rfl

/-! ## The statement -/

theorem execClosed_countersAgree : ExecClosed State.countersAgree where
  enterMuster m d _ _ h := countersAgree_enterMuster m d h
  mark e n he _ h := countersAgree_replace_same (e' := { e with mark := .mustered n }) he rfl rfl h
  setPresence e p n he _ h := countersAgree_setPresence e p n he h
  commitPassage p _ h := countersAgree_commitPassage p h
  port x hcounters _ h := ⟨h.1, fun c p => (congrArg (fun y => Counters.count y c p) hcounters).trans (h.2 c p)⟩
  insertCard d p hnew _ h := countersAgree_insertCard d p hnew h
  rewriteCard e d he h := countersAgree_rewriteCard e d he h
  removeCard e he _ _ h := countersAgree_removeCard e he h
  cold _ _ _ := ⟨rfl, fun c p => by cases c <;> cases p <;> rfl⟩

/-- Settles O32: the invariant is kept by every primitive change, and the tick leaves cards and counters. -/
theorem everyStepKeepsTheCounters : Obligations.EveryStepKeepsTheCounters := fun s t h hs =>
  step_closed execClosed_countersAgree (fun _ h => h) (fun h => h) s t h hs

end Sys2Proof.Proofs

/-! PROOF. Every step keeps the muster: no Outbound passage is pending in it, and the roll counts the marks (R114, R137,
R141). -/

namespace Sys2Proof.Proofs

open Sys2Proof.Machine Sys2Proof.Claims

/-! ## No Outbound passage in a muster (R114) -/

/-- After the start of a muster every pending passage is Inbound. -/
theorem inbound_of_enterMuster (s : State) (m : MusterState) (d : Detail) {p : Passage}
    (hp : p ∈ (s.enterMuster m d).passage.passages) : p.direction = .inbound := by
  obtain ⟨q, heq⟩ := enterMuster_frame s m d
  rw [heq] at hp
  obtain ⟨hmem, hall⟩ := List.mem_filter.1 hp
  cases hd : p.direction with
  | inbound => rfl
  | outbound =>
    have hself := List.all_eq_true.1 hall p (List.mem_filter.2 ⟨hmem, by rw [hd]; rfl⟩)
    exact absurd hself (by simp)

/-- Neither a muster that begins nor an Outbound passage: what is pending in a muster stays Inbound. -/
theorem noOutboundInMuster_of_subset {s t : State} (hmuster : s.muster.state = .off → t.muster.state = .off)
    (hpassages : ∀ p ∈ t.passage.passages, p ∈ s.passage.passages) (h : s.noOutboundInMuster) :
    t.noOutboundInMuster :=
  fun hon p hp => h (fun hoff => hon (hmuster hoff)) p (hpassages p hp)

/-- A card's rewrite leaves the muster state. -/
theorem State.muster_state_moveRoll (s : State) (e : CardEntry) (c : HolderClass) :
    (s.moveRoll e c).muster.state = s.muster.state := by
  unfold State.moveRoll
  split
  · split
    · rw [State.muster_setMuster, MusterUnit.state_raiseRoll, MusterUnit.state_lowerRoll]
    · rfl
  · rfl

/-- A card's rewrite leaves the pending passages. -/
theorem State.passage_moveRoll (s : State) (e : CardEntry) (c : HolderClass) :
    (s.moveRoll e c).passage = s.passage := by
  unfold State.moveRoll
  split
  · split <;> rfl
  · rfl

theorem noOutboundInMuster_rewriteCard {s : State} (e : CardEntry) (d : CardData) (h : s.noOutboundInMuster) :
    (s.rewriteCard e d).noOutboundInMuster := by
  unfold State.rewriteCard
  dsimp only
  split
  · exact h
  · refine noOutboundInMuster_of_subset (fun hoff => ?_) (fun p hp => ?_) h
    · rwa [State.muster_state_moveRoll]
    · rwa [State.passage_moveRoll] at hp

theorem noOutboundInMuster_openPassage {s : State} (gate : Station) (c : Option Nat) (d : Direction)
    (hd : s.muster.state ≠ .off → d = .inbound) (h : s.noOutboundInMuster) :
    (s.openPassage gate c d).noOutboundInMuster := by
  intro hon p hp
  rcases mem_put _ hp with rfl | hp
  · exact hd hon
  · exact h hon p hp

theorem execClosed_noOutboundInMuster : ExecClosed State.noOutboundInMuster where
  musterKept _ _ hstate h := noOutboundInMuster_of_subset hstate (fun _ hp => hp) h
  enterMuster m d _ _ _ := fun _ _ hp => inbound_of_enterMuster _ m d hp
  unlisted n h := noOutboundInMuster_of_subset (fun hoff => (MusterUnit.state_raiseUnlisted _ n).trans hoff)
    (fun _ hp => hp) h
  mark e n _ _ h := noOutboundInMuster_of_subset (fun hoff => (State.muster_state_setMark _ e n).trans hoff)
    (fun _ hp => hp) h
  commitPassage {s} p _ h := by
    obtain ⟨hpassages, hmuster⟩ := State.commitPassage_frame s p
    refine noOutboundInMuster_of_subset (fun hoff => ?_) (fun q hq => ?_) h
    · rwa [hmuster]
    · rw [hpassages] at hq
      exact (List.mem_filter.1 hq).1
  port {s} x _ hpassages h := noOutboundInMuster_of_subset (s := s) (t := s.setPassage x) id
    (fun _ hp => by rwa [← hpassages]) h
  openPassage gate c d hd _ _ h := noOutboundInMuster_openPassage gate c d hd h
  dropPassages {s} ps hps h := noOutboundInMuster_of_subset (s := s) (t := s.setPassages ps) id
    (fun _ hp => hps.subset hp) h
  rewriteCard e d _ h := noOutboundInMuster_rewriteCard e d h
  cold c l _ := fun hon => absurd rfl hon

theorem noOutboundInMuster_countTime {s : State} (h : s.noOutboundInMuster) : s.countTime.noOutboundInMuster := by
  intro hon p hp
  obtain ⟨q, hq, rfl⟩ := List.mem_map.1 hp
  exact h hon q hq

/-! ## The rows of the roll (R123, R136, R137) -/

/-- The count of a group in a row of the roll: Guest/Junior, or crew. -/
def groupCount (r : RollRow) (guestJunior : Bool) : Nat := if guestJunior then r.guestJunior else r.crew

/-- A row after a change of the row of a station. -/
theorem MusterUnit.roll_modifyRow (m : MusterUnit) (n : Nat) (f : RollRow → RollRow) (i : Fin 32) :
    (m.modifyRow n f).roll[i] = if n = i.val + 1 then f m.roll[i] else m.roll[i] := by
  unfold MusterUnit.modifyRow rollIndex
  split
  · rename_i j hj
    split at hj
    · cases hj
      by_cases hi : n = i.val + 1
      · have : (⟨n - 1, by omega⟩ : Fin 32) = i := Fin.ext (by simp only; omega)
        simp [hi, vmodify]
      · have : n - 1 ≠ i.val := by omega
        simp [hi, vmodify, Vector.getElem_set_ne, this]
    · cases hj
  · rename_i hj
    split at hj
    · cases hj
    · rw [if_neg (by omega)]

theorem groupCount_raiseRoll (m : MusterUnit) (n : Nat) (c : HolderClass) (i : Fin 32) (g : Bool) :
    groupCount (m.raiseRoll n c).roll[i] g =
      groupCount m.roll[i] g + if n = i.val + 1 ∧ c.isGuestJunior = g then 1 else 0 := by
  rw [MusterUnit.raiseRoll, MusterUnit.roll_modifyRow]
  by_cases hn : n = i.val + 1
  · cases hc : c.isGuestJunior <;> cases g <;> simp [groupCount, hn]
  · simp [hn]

theorem groupCount_lowerRoll (m : MusterUnit) (n : Nat) (c : HolderClass) (i : Fin 32) (g : Bool) :
    groupCount (m.lowerRoll n c).roll[i] g =
      groupCount m.roll[i] g - if n = i.val + 1 ∧ c.isGuestJunior = g then 1 else 0 := by
  rw [MusterUnit.lowerRoll, MusterUnit.roll_modifyRow]
  by_cases hn : n = i.val + 1
  · cases hc : c.isGuestJunior <;> cases g <;> simp [groupCount, hn]
  · simp [hn]

theorem groupCount_raiseUnlisted (m : MusterUnit) (n : Nat) (i : Fin 32) (g : Bool) :
    groupCount (m.raiseUnlisted n).roll[i] g = groupCount m.roll[i] g := by
  rw [MusterUnit.raiseUnlisted, MusterUnit.roll_modifyRow]
  split <;> rfl

/-! ## The roll counts the marks (R137) -/

/-- The card is marked at a station and of a group. -/
def markedIn (n : Nat) (guestJunior : Bool) (e : CardEntry) : Bool :=
  e.mark == .mustered n && e.data.cls.isGuestJunior == guestJunior

theorem markedIn_iff (n : Nat) (g : Bool) (e : CardEntry) :
    markedIn n g e = true ↔ e.mark = .mustered n ∧ e.data.cls.isGuestJunior = g := by
  rw [markedIn, Bool.and_eq_true, beq_iff_eq, beq_iff_eq]

/-- The roll's part of the invariant in a muster: every group's count, and the presence of the marked. -/
def rollCounts (roll : Vector RollRow 32) (cards : List CardEntry) : Prop :=
  (∀ (i : Fin 32) (g : Bool), groupCount roll[i] g = (cards.filter (markedIn (i.val + 1) g)).length) ∧
    ∀ e ∈ cards, e.mark ≠ .unmarked → e.presence = .aboard

theorem rollAgrees_iff (s : State) :
    s.rollAgrees ↔ ascending CardEntry.key s.cards = true ∧
      (s.muster.state ≠ .off → rollCounts s.muster.roll s.cards) := by
  refine and_congr_right fun _ => imp_congr_right fun _ => and_congr_left fun _ => ?_
  constructor
  · intro h i g
    cases g
    · exact (h i).2
    · exact (h i).1
  · exact fun h i => ⟨h i true, h i false⟩

/-- An entry takes another's place: the marked stay Aboard. -/
theorem aboard_of_put {cards : List CardEntry} {e' : CardEntry}
    (h : ∀ e ∈ cards, e.mark ≠ .unmarked → e.presence = .aboard) (he' : e'.mark ≠ .unmarked → e'.presence = .aboard) :
    ∀ e ∈ put CardEntry.key e' cards, e.mark ≠ .unmarked → e.presence = .aboard := by
  intro e he
  rcases mem_put _ he with rfl | he
  · exact he'
  · exact h e he

/-- An entry takes the place of one of its mark and group, and is Aboard where it is marked. -/
theorem rollAgrees_replace_same {s : State} {e e' : CardEntry} (he : s.card? e'.data.number = some e)
    (hmark : e'.mark = e.mark) (hgroup : e.mark ≠ .unmarked → e'.data.cls.isGuestJunior = e.data.cls.isGuestJunior)
    (haboard : s.muster.state ≠ .off → e'.mark ≠ .unmarked → e'.presence = .aboard) (h : s.rollAgrees) :
    (s.setCards (put CardEntry.key e' s.cards)).rollAgrees := by
  rw [rollAgrees_iff] at h ⊢
  obtain ⟨hasc, hroll⟩ := h
  refine ⟨ascending_put _ _ hasc, fun hon => ⟨fun i g => ?_, aboard_of_put (hroll hon).2 (haboard hon)⟩⟩
  have hput := filter_put_old CardEntry.key (markedIn (i.val + 1) g) e' e hasc he
  have hsame : markedIn (i.val + 1) g e' = markedIn (i.val + 1) g e := by
    by_cases hmarked : e.mark = .unmarked
    · rw [markedIn, markedIn, hmark, hmarked]; rfl
    · rw [markedIn, markedIn, hmark, hgroup hmarked]
  rw [hsame] at hput
  exact ((hroll hon).1 i g).trans (Nat.add_right_cancel hput).symm

/-- A marked card that changes its mark or its group moves from one row's count to another. -/
theorem rollCounts_move {m : MusterUnit} {cards : List CardEntry} {e e' : CardEntry} {old new : Nat}
    (hasc : ascending CardEntry.key cards = true) (he : lookup CardEntry.key e'.data.number cards = some e)
    (hold : e.mark = .mustered old) (hnew : e'.mark = .mustered new) (haboard : e'.presence = .aboard)
    (h : rollCounts m.roll cards) :
    rollCounts ((m.lowerRoll old e.data.cls).raiseRoll new e'.data.cls).roll (put CardEntry.key e' cards) := by
  refine ⟨fun i g => ?_, aboard_of_put h.2 fun _ => haboard⟩
  have hput := filter_put_old CardEntry.key (markedIn (i.val + 1) g) e' e hasc he
  have hone := one_le_length_filter (markedIn (i.val + 1) g) (lookup_some_mem _ he)
  simp only [markedIn_iff, hold, hnew, MusterMark.mustered.injEq] at hput hone
  rw [groupCount_raiseRoll, groupCount_lowerRoll, h.1 i g]
  omega

/-- An unmarked card that is marked comes into a row's count. -/
theorem rollCounts_mark {m : MusterUnit} {cards : List CardEntry} {e e' : CardEntry} {new : Nat}
    (hasc : ascending CardEntry.key cards = true) (he : lookup CardEntry.key e'.data.number cards = some e)
    (hold : e.mark = .unmarked) (hnew : e'.mark = .mustered new) (haboard : e'.presence = .aboard)
    (h : rollCounts m.roll cards) : rollCounts (m.raiseRoll new e'.data.cls).roll (put CardEntry.key e' cards) := by
  refine ⟨fun i g => ?_, aboard_of_put h.2 fun _ => haboard⟩
  have hput := filter_put_old CardEntry.key (markedIn (i.val + 1) g) e' e hasc he
  simp only [markedIn_iff, hold, hnew, MusterMark.mustered.injEq, reduceCtorEq, false_and, if_false] at hput
  rw [groupCount_raiseRoll, h.1 i g]
  omega

theorem rollAgrees_setMark {s : State} (e : CardEntry) (n : Nat) (he : s.card? e.data.number = some e)
    (haboard : e.presence = .aboard) (h : s.rollAgrees) : (s.setMark e n).rollAgrees := by
  rw [rollAgrees_iff] at h ⊢
  obtain ⟨hasc, hroll⟩ := h
  refine ⟨ascending_put _ _ hasc, fun hon => ?_⟩
  rw [State.muster_state_setMark] at hon
  unfold State.setMark
  cases hmark : e.mark with
  | unmarked => exact rollCounts_mark (e' := { e with mark := .mustered n }) hasc he hmark rfl haboard (hroll hon)
  | mustered old => exact rollCounts_move (e' := { e with mark := .mustered n }) hasc he hmark rfl haboard (hroll hon)

theorem rollAgrees_rewriteCard {s : State} (e : CardEntry) (d : CardData) (he : s.card? d.number = some e)
    (h : s.rollAgrees) : (s.rewriteCard e d).rollAgrees := by
  have haboard : s.muster.state ≠ .off → e.mark ≠ .unmarked → e.presence = .aboard :=
    fun hon hmark => (h.2 hon).2 e (lookup_some_mem _ he) hmark
  unfold State.rewriteCard
  dsimp only
  split
  · rename_i hcls
    exact rollAgrees_replace_same (e' := { e with data := d }) he rfl (fun _ => by rw [hcls]) haboard h
  · unfold State.moveRoll
    split
    · rename_i st hmark
      split
      · rename_i hmoved
        rw [rollAgrees_iff] at h ⊢
        obtain ⟨hasc, hroll⟩ := h
        exact ⟨ascending_put _ _ hasc, fun _ => rollCounts_move (e' := { e with data := d }) hasc he hmark hmark
          (haboard hmoved.1 (by rw [hmark]; nofun)) (hroll hmoved.1)⟩
      · rename_i hkept
        by_cases hon : s.muster.state = .off
        · exact ⟨ascending_put _ _ h.1, fun h => absurd hon h⟩
        · have hgroup : d.cls.isGuestJunior = e.data.cls.isGuestJunior :=
            Classical.not_not.1 fun hne => hkept ⟨hon, Ne.symm hne⟩
          exact rollAgrees_replace_same (e' := { e with data := d }) he rfl (fun _ => hgroup) haboard h
    · rename_i hmark
      exact rollAgrees_replace_same (e' := { e with data := d }) he rfl (fun hne => absurd hmark hne) haboard h

theorem rollAgrees_setPresence {s : State} (e : CardEntry) (p : Presence) (n : Nat)
    (he : s.card? e.data.number = some e) (hp : s.muster.state ≠ .off → e.mark ≠ .unmarked → p = .aboard)
    (h : s.rollAgrees) : (s.setPresence e p n).rollAgrees := by
  obtain ⟨c, heq⟩ := State.setPresence_eq s e p n
  rw [heq]
  exact rollAgrees_replace_same (e' := { e with presence := p, stamp := n }) he rfl (fun _ => rfl) hp h

/-- A commit during a muster is Inbound, so that its card is Aboard after it. -/
theorem rollAgrees_commitPassage {s : State} (p : Passage) (hp : p ∈ s.passage.passages)
    (hinbound : s.noOutboundInMuster) (h : s.rollAgrees) : (s.commitPassage p).rollAgrees := by
  unfold State.commitPassage
  dsimp only
  split
  · unfold State.countUntracked
    split <;> exact h
  · split
    · rename_i e he
      refine rollAgrees_setPresence _ _ _ ((lookup_number he).symm ▸ he) (fun hon _ => ?_) h
      rw [hinbound hon p hp]
      rfl
    · exact h

theorem rollAgrees_insertCard {s : State} (d : CardData) (p : Presence) (hnew : s.card? d.number = none)
    (h : s.rollAgrees) : (s.insertCard d p).rollAgrees := by
  rw [rollAgrees_iff] at h ⊢
  obtain ⟨hasc, hroll⟩ := h
  refine ⟨ascending_put _ _ hasc, fun hon => ⟨fun i g => ?_, aboard_of_put (hroll hon).2 fun hne => absurd rfl hne⟩⟩
  have hput := filter_put_new CardEntry.key (markedIn (i.val + 1) g)
    { data := d, presence := p, stamp := 0, mark := .unmarked } hasc hnew
  simp only [markedIn_iff, reduceCtorEq, false_and, if_false, Nat.add_zero] at hput
  exact ((hroll hon).1 i g).trans hput.symm

theorem rollAgrees_removeCard {s : State} (e : CardEntry) (he : s.card? e.data.number = some e)
    (hmark : s.muster.state ≠ .off → e.mark = .unmarked) (h : s.rollAgrees) : (s.removeCard e).rollAgrees := by
  rw [rollAgrees_iff] at h ⊢
  obtain ⟨hasc, hroll⟩ := h
  refine ⟨ascending_erase _ _ hasc, fun hon => ⟨fun i g => ?_, fun x hx => (hroll hon).2 x (List.mem_filter.1 hx).1⟩⟩
  have herase := filter_erase CardEntry.key (markedIn (i.val + 1) g) e hasc he
  simp only [markedIn_iff, hmark hon, reduceCtorEq, false_and, if_false, Nat.add_zero] at herase
  exact ((hroll hon).1 i g).trans herase.symm

/-- The start of a muster clears the roll and every mark. -/
theorem rollAgrees_enterMuster {s : State} (m : MusterState) (d : Detail) (h : s.rollAgrees) :
    (s.enterMuster m d).rollAgrees := by
  obtain ⟨q, heq⟩ := enterMuster_frame s m d
  rw [heq, rollAgrees_iff]
  refine ⟨ascending_map (f := unmarked) _ (fun _ => rfl) h.1, fun _ => ⟨fun i g => ?_, fun e he hne => ?_⟩⟩
  · have hnone : (s.cards.map unmarked).filter (markedIn (i.val + 1) g) = [] :=
      List.filter_eq_nil_iff.2 fun e he hmarked => by
        obtain ⟨x, -, rfl⟩ := List.mem_map.1 he
        exact nomatch ((markedIn_iff ..).1 hmarked).1
    show groupCount (Vector.replicate 32 RollRow.zero)[i] g = ((s.cards.map unmarked).filter _).length
    rw [hnone]
    cases g <;> simp [groupCount, RollRow.zero]
  · obtain ⟨x, -, rfl⟩ := List.mem_map.1 he
    exact absurd rfl hne

/-! ## The statement -/

/-- Both invariants of the muster. -/
def musterSound (s : State) : Prop := s.noOutboundInMuster ∧ s.rollAgrees

theorem execClosed_musterSound : ExecClosed musterSound where
  musterKept x hroll hstate h := ⟨execClosed_noOutboundInMuster.musterKept x hroll hstate h.1, h.2.1,
    fun hon => (show x.roll = _ from hroll) ▸ h.2.2 fun hoff => hon (hstate hoff)⟩
  enterMuster m d hoff hm h := ⟨execClosed_noOutboundInMuster.enterMuster m d hoff hm h.1, rollAgrees_enterMuster m d h.2⟩
  unlisted {s} n h := by
    refine ⟨execClosed_noOutboundInMuster.unlisted n h.1, (rollAgrees_iff _).2 ⟨h.2.1, fun hon => ?_⟩⟩
    rw [State.muster_setMuster, MusterUnit.state_raiseUnlisted] at hon
    obtain ⟨hcount, haboard⟩ := ((rollAgrees_iff s).1 h.2).2 hon
    exact ⟨fun i g => (groupCount_raiseUnlisted ..).trans (hcount i g), haboard⟩
  mark e n he ha h := ⟨execClosed_noOutboundInMuster.mark e n he ha h.1, rollAgrees_setMark e n he ha h.2⟩
  setPresence e p n he hp h :=
    ⟨execClosed_noOutboundInMuster.setPresence e p n he hp h.1, rollAgrees_setPresence e p n he hp h.2⟩
  commitPassage p hp h :=
    ⟨execClosed_noOutboundInMuster.commitPassage p hp h.1, rollAgrees_commitPassage p hp h.1 h.2⟩
  port x hc hp h := ⟨execClosed_noOutboundInMuster.port x hc hp h.1, h.2⟩
  openPassage g c d h1 h2 h3 h := ⟨execClosed_noOutboundInMuster.openPassage g c d h1 h2 h3 h.1, h.2⟩
  dropPassages ps hps h := ⟨execClosed_noOutboundInMuster.dropPassages ps hps h.1, h.2⟩
  insertCard d p hnew hlen h :=
    ⟨execClosed_noOutboundInMuster.insertCard d p hnew hlen h.1, rollAgrees_insertCard d p hnew h.2⟩
  rewriteCard e d he h := ⟨noOutboundInMuster_rewriteCard e d h.1, rollAgrees_rewriteCard e d he h.2⟩
  removeCard e he hm hp h :=
    ⟨execClosed_noOutboundInMuster.removeCard e he hm hp h.1, rollAgrees_removeCard e he hm h.2⟩
  cold c l _ := ⟨fun hon => absurd rfl hon, rfl, fun hon => absurd rfl hon⟩

/-- Settles O31: both invariants are kept by every primitive change; the roll needs the other, since a card that goes
ashore in a muster would be marked and not Aboard. -/
theorem everyStepKeepsMusterInboundOnly : Obligations.EveryStepKeepsMusterInboundOnly := fun s t h hs =>
  ⟨step_closed execClosed_noOutboundInMuster (fun _ h => h) noOutboundInMuster_countTime s t h hs,
    fun hroll => (step_closed execClosed_musterSound (fun _ h => h)
      (fun h => ⟨noOutboundInMuster_countTime h.1, h.2⟩) s t ⟨h, hroll⟩ hs).2⟩

end Sys2Proof.Proofs

/-! PROOF. Every step keeps the capacities of the Event Queue and of the slots, and the run of the journal's numbers
(R92, R93, R196). -/

namespace Sys2Proof.Proofs

open Sys2Proof.Machine Sys2Proof.Claims

/-! ## The Event Queue (R196) -/

theorem eventsKept_report {s : State} (r : EventRecord) (h : s.eventsKept) : (s.report r).eventsKept :=
  EventQueue.arrive_length _ _ h

theorem eventsKept_abandonAll (ps : List Passage) {s : State} (h : s.eventsKept) : (abandonAll ps s).eventsKept := by
  induction ps generalizing s with
  | nil => exact h
  | cons p ps ih =>
    refine ih ?_
    unfold State.abandonPassage
    split
    · exact h
    · exact eventsKept_report _ h

theorem eventsKept_authorizeOn {s : State} (st : Station) (e : CardEntry) (a : Account) (amount : Nat) (g : Goods)
    (r : Nat) (h : s.eventsKept) : (authorizeOn s st e a amount g r).1.eventsKept := by
  unfold authorizeOn
  split; · exact h
  split; · exact h
  split
  · exact eventsKept_report _ h
  · (repeat' split) <;> exact h

theorem execClosed_eventsKept : ExecClosed State.eventsKept where
  report r h := eventsKept_report r h
  enterMuster _ _ _ _ h := eventsKept_abandonAll _ (eventsKept_report _ h)
  authorize st e a amount g r _ _ h := eventsKept_authorizeOn st e a amount g r h
  events _ hlen h := Nat.le_trans hlen h
  cold _ _ _ := Nat.zero_le _

/-! ## The ends of all holds -/

/-- The journal record that lapses a hold under a number and a voyage clock (R87, R90). -/
def lapsedRecord (v : VoyageClock) (number : Nat) (x : Hold) : JournalRecord :=
  { number := number, kind := .lapsed, account := x.account, card := x.card, station := x.station, outlet := x.outlet,
    reference := x.reference, tag := x.tag, amount := x.amount, time := v.time, day := v.day }

/-- The Charge Unit's journal, number, tag and holds after a hold has ended. -/
theorem charge_endHold (s : State) (x : Hold) (k : JournalKind) (amount charged : Nat) :
    ∃ accounts, s.endHold x k amount charged = s.setCharge
      { accounts := accounts, holds := s.charge.holds.filter fun y => y.tag != x.tag, lastTag := s.charge.lastTag,
        journal := s.charge.journal ++ [s.recordOf x k amount], lastNumber := s.charge.lastNumber + 1 } := by
  unfold State.endHold ChargeUnit.modifyAccount
  split <;> exact ⟨_, rfl⟩

/-- Each hold of the list lapses with a record of its own, numbered on from the last. -/
theorem charge_lapseAll (hs : List Hold) (s : State) :
    ∃ accounts, lapseAll hs s = s.setCharge
      { accounts := accounts, holds := s.charge.holds.filter fun y => hs.all fun x => y.tag != x.tag
        lastTag := s.charge.lastTag
        journal := s.charge.journal ++
          hs.mapIdx fun i x => lapsedRecord s.engine.voyage (s.charge.lastNumber + 1 + i) x
        lastNumber := s.charge.lastNumber + hs.length } := by
  induction hs generalizing s with
  | nil =>
    refine ⟨s.charge.accounts, ?_⟩
    simp only [List.all_nil, List.filter_true, List.mapIdx_nil, List.append_nil, List.length_nil, Nat.add_zero]
    rfl
  | cons x hs ih =>
    obtain ⟨a, ha⟩ := charge_endHold s x .lapsed x.amount 0
    obtain ⟨b, hb⟩ := ih (s.endHold x .lapsed x.amount 0)
    refine ⟨b, hb.trans ?_⟩
    rw [ha]
    have hindex : ∀ i, s.charge.lastNumber + 1 + 1 + i = s.charge.lastNumber + 1 + (i + 1) := fun i => by omega
    have hcount : s.charge.lastNumber + 1 + hs.length = s.charge.lastNumber + (hs.length + 1) := by omega
    have hholds : (s.charge.holds.filter fun y => y.tag != x.tag).filter (fun y => hs.all fun x => y.tag != x.tag) =
        s.charge.holds.filter fun y => (x :: hs).all fun x => y.tag != x.tag := by
      rw [List.filter_filter]
      exact List.filter_congr fun y _ => by rw [List.all_cons, Bool.and_comm]
    simp only [State.charge_setCharge, State.engine_setCharge, hholds, List.mapIdx_cons, List.append_assoc,
      List.length_cons, hindex, hcount]
    rfl

/-- Once every outstanding hold has lapsed, none is left. -/
theorem holds_lapseAll (s : State) : (lapseAll s.charge.holds s).charge.holds = [] := by
  obtain ⟨a, ha⟩ := charge_lapseAll s.charge.holds s
  rw [ha]
  refine List.filter_eq_nil_iff.2 fun x hx hall => ?_
  simpa using List.all_eq_true.1 hall x hx

/-- A hold that ends frees a slot at least. -/
theorem length_filter_tag_lt {hs : List Hold} {x : Hold} (hx : x ∈ hs) :
    (hs.filter fun y => y.tag != x.tag).length + 1 ≤ hs.length :=
  List.length_filter_lt_length_iff_exists.2 ⟨x, hx, by simp⟩

/-! ## The slots shared by records and holds (R93) -/

theorem slotsKept_endHold {s : State} {x : Hold} (k : JournalKind) (amount charged : Nat) (hx : x ∈ s.charge.holds)
    (h : s.slotsKept) : (s.endHold x k amount charged).slotsKept := by
  obtain ⟨a, ha⟩ := charge_endHold s x k amount charged
  have hlt := length_filter_tag_lt hx
  rw [ha]
  simp only [State.slotsKept, State.charge_setCharge, List.length_append, List.length_singleton] at h ⊢
  omega

theorem slotsKept_lapseAll {s : State} (h : s.slotsKept) : (lapseAll s.charge.holds s).slotsKept := by
  have hnone := holds_lapseAll s
  obtain ⟨a, ha⟩ := charge_lapseAll s.charge.holds s
  unfold State.slotsKept
  rw [hnone, ha]
  simpa [State.slotsKept] using h

/-- What a granted Authorize finds in the slots and numbers, and that nothing else makes a hold (R74, R93). -/
theorem authorizeOn_cases {P : State → Prop} {s : State} (st : Station) (e : CardEntry) (a : Account) (amount : Nat)
    (g : Goods) (r : Nat) (hreport : ∀ x, P s → P (s.report x))
    (hcreate : s.charge.journalCount + s.charge.holds.length < Config.journalSlots → P s →
      P (s.createHold st e.data.number a amount g r).1) (h : P s) : P (authorizeOn s st e a amount g r).1 := by
  unfold authorizeOn
  split; · exact h
  split; · exact h
  split; · exact hreport _ h
  split; · exact h
  split; · exact h
  split; · exact h
  rename_i hslots
  split; · exact h
  split; · exact h
  exact hcreate (Nat.not_le.1 hslots) h

/-- An Authorize that finds a slot free finds numbers free for all holds as well. -/
theorem slots_of_journalCount {c : ChargeUnit} (h : c.journalCount + c.holds.length < Config.journalSlots) :
    c.lastNumber ≤ Config.journalNumberLimit ∧ c.journal.length + c.holds.length < Config.journalSlots := by
  unfold ChargeUnit.journalCount at h
  split at h <;> omega

theorem slotsKept_createHold {s : State} (st : Station) (card : Nat) (a : Account) (amount : Nat) (g : Goods) (r : Nat)
    (hfree : s.charge.journalCount + s.charge.holds.length < Config.journalSlots) :
    (s.createHold st card a amount g r).1.slotsKept := by
  have := (slots_of_journalCount hfree).2
  simp only [State.slotsKept, State.createHold, State.charge_setCharge, List.length_append, List.length_singleton]
  omega

theorem execClosed_slotsKept : ExecClosed State.slotsKept where
  authorize st e a amount g r _ _ h := authorizeOn_cases st e a amount g r (fun _ h => h)
    (fun hfree _ => slotsKept_createHold st _ a amount g r hfree) h
  endHold _ k amount charged hx _ h := slotsKept_endHold k amount charged hx h
  lapseAll h := slotsKept_lapseAll h
  detach st h := by simpa [State.slotsKept, State.detachHolds] using h
  release n h := Nat.le_trans (Nat.add_le_add_right (List.length_filter_le _ _) _) h
  cold _ _ _ := Nat.zero_le _

/-! ## The run of the journal's numbers (R92) -/

/-- The numbers of the records form one unbroken run that ends at the last number given. -/
def numbersRun (journal : List JournalRecord) (last : Nat) : Prop :=
  journal.length ≤ last ∧
    journal.map JournalRecord.number = List.range' (last + 1 - journal.length) journal.length

theorem journalRun_iff (s : State) :
    s.journalRun ↔ numbersRun s.charge.journal s.charge.lastNumber ∧
      s.charge.lastNumber + s.charge.holds.length ≤ Config.maxWord32 :=
  and_assoc.symm

/-- A record with the next number carries the run on. -/
theorem numbersRun_append {journal : List JournalRecord} {last : Nat} {r : JournalRecord} (hr : r.number = last + 1)
    (h : numbersRun journal last) : numbersRun (journal ++ [r]) (last + 1) := by
  obtain ⟨hlen, hrun⟩ := h
  refine ⟨by simpa using hlen, ?_⟩
  have hstart : last + 1 + 1 - (journal.length + 1) = last + 1 - journal.length := by omega
  have hend : last + 1 - journal.length + 1 * journal.length = last + 1 := by omega
  rw [List.map_append, hrun, List.length_append, List.length_singleton, hstart, List.range'_concat, hend]
  simp [hr]

/-- Of an ascending run, the numbers above a bound are its end. -/
theorem filter_range'_eq (n a len : Nat) :
    ∃ m ≤ len, (List.range' a len).filter (fun k => decide (n < k)) = List.range' (a + len - m) m := by
  induction len generalizing a with
  | zero => exact ⟨0, Nat.le_refl _, rfl⟩
  | succ len ih =>
    by_cases ha : n < a
    · refine ⟨len + 1, Nat.le_refl _, ?_⟩
      rw [Nat.add_sub_cancel]
      refine List.filter_eq_self.2 fun k hk => ?_
      have := (List.mem_range'_1.1 hk).1
      exact decide_eq_true (by omega)
    · obtain ⟨m, hm, heq⟩ := ih (a + 1)
      refine ⟨m, by omega, ?_⟩
      rw [List.range'_succ, List.filter_cons_of_neg (by simpa using ha), heq]
      congr 1
      omega

/-- A release leaves a run with the same end (R97). -/
theorem numbersRun_release {journal : List JournalRecord} {last : Nat} (n : Nat) (h : numbersRun journal last) :
    numbersRun (journal.filter fun r => decide (n < r.number)) last := by
  obtain ⟨hlen, hrun⟩ := h
  obtain ⟨m, hm, hfilter⟩ := filter_range'_eq n (last + 1 - journal.length) journal.length
  have hmap : (journal.filter fun r => decide (n < r.number)).map JournalRecord.number = List.range' (last + 1 - m) m := by
    have hcomp : (fun r : JournalRecord => decide (n < r.number)) = (fun k => decide (n < k)) ∘ JournalRecord.number := rfl
    rw [hcomp, ← List.filter_map, hrun, hfilter]
    congr 1
    omega
  have hlength : (journal.filter fun r => decide (n < r.number)).length = m := by
    have := congrArg List.length hmap
    rwa [List.length_map, List.length_range'] at this
  refine ⟨by omega, ?_⟩
  rw [hlength, hmap]

theorem numbersRun_endHold {s : State} (x : Hold) (k : JournalKind) (amount charged : Nat)
    (h : numbersRun s.charge.journal s.charge.lastNumber) :
    numbersRun (s.endHold x k amount charged).charge.journal (s.endHold x k amount charged).charge.lastNumber := by
  obtain ⟨a, ha⟩ := charge_endHold s x k amount charged
  rw [ha]
  exact numbersRun_append rfl h

theorem numbersRun_lapseAll (hs : List Hold) {s : State} (h : numbersRun s.charge.journal s.charge.lastNumber) :
    numbersRun (lapseAll hs s).charge.journal (lapseAll hs s).charge.lastNumber := by
  induction hs generalizing s with
  | nil => exact h
  | cons x hs ih => exact ih (numbersRun_endHold x _ _ _ h)

theorem journalRun_endHold {s : State} {x : Hold} (k : JournalKind) (amount charged : Nat) (hx : x ∈ s.charge.holds)
    (h : s.journalRun) : (s.endHold x k amount charged).journalRun := by
  rw [journalRun_iff] at h ⊢
  refine ⟨numbersRun_endHold x k amount charged h.1, ?_⟩
  obtain ⟨a, ha⟩ := charge_endHold s x k amount charged
  have hlt := length_filter_tag_lt hx
  have hmax := h.2
  rw [ha]
  simp only [State.charge_setCharge]
  omega

theorem journalRun_lapseAll {s : State} (h : s.journalRun) : (lapseAll s.charge.holds s).journalRun := by
  rw [journalRun_iff] at h ⊢
  have hnone := holds_lapseAll s
  refine ⟨numbersRun_lapseAll _ h.1, ?_⟩
  rw [hnone]
  obtain ⟨a, ha⟩ := charge_lapseAll s.charge.holds s
  rw [ha]
  exact h.2

theorem journalRun_createHold {s : State} (st : Station) (card : Nat) (a : Account) (amount : Nat) (g : Goods) (r : Nat)
    (hfree : s.charge.journalCount + s.charge.holds.length < Config.journalSlots) (h : s.journalRun) :
    (s.createHold st card a amount g r).1.journalRun := by
  obtain ⟨hlast, hslots⟩ := slots_of_journalCount hfree
  refine ⟨h.1, h.2.1, ?_⟩
  simp only [State.createHold, State.charge_setCharge, List.length_append, List.length_singleton]
  have hlimit : Config.journalNumberLimit + Config.journalSlots = Config.maxWord32 := rfl
  omega

theorem execClosed_journalRun : ExecClosed State.journalRun where
  authorize st e a amount g r _ _ h := authorizeOn_cases st e a amount g r (fun _ h => h)
    (fun hfree => journalRun_createHold st _ a amount g r hfree) h
  endHold _ k amount charged hx _ h := journalRun_endHold k amount charged hx h
  lapseAll h := journalRun_lapseAll h
  detach st h := by simpa [State.journalRun, State.detachHolds] using h
  release n h := (journalRun_iff _).2 ⟨numbersRun_release n ((journalRun_iff _).1 h).1, ((journalRun_iff _).1 h).2⟩
  cold _ _ _ := ⟨Nat.zero_le _, rfl, Nat.zero_le _⟩

/-- Holds that count down take as many slots. -/
theorem length_holds_countTime (s : State) : s.countTime.charge.holds.length = s.charge.holds.length :=
  List.length_map ..

end Sys2Proof.Proofs

/-! PROOF. Every step keeps the tables: their keys apart and ascending, and at most so many entries (R4, R44, R46, R66),
the pending passages apart (R108), and the profile legal (R194). -/

namespace Sys2Proof.Proofs

open Sys2Proof.Machine Sys2Proof.Claims

/-! ## A keyed table of bounded length -/

section Table
variable {α : Type} {key : α → Nat} {max : Nat} {t : List α}

/-- The keys stand in ascending order, and there are at most so many entries. -/
def tableKept (key : α → Nat) (max : Nat) (t : List α) : Prop := ascending key t = true ∧ t.length ≤ max

theorem tableKept_replace {x : α} (hx : (lookup key (key x) t).isSome = true) (h : tableKept key max t) :
    tableKept key max (put key x t) := by
  refine ⟨ascending_put _ _ h.1, ?_⟩
  rw [length_put key x h.1, if_pos hx]
  exact h.2

theorem tableKept_insert (x : α) (hroom : t.length < max) (h : tableKept key max t) :
    tableKept key max (put key x t) := by
  refine ⟨ascending_put _ _ h.1, ?_⟩
  rw [length_put key x h.1]
  split <;> omega

theorem tableKept_erase (k : Nat) (h : tableKept key max t) : tableKept key max (erase key k t) :=
  ⟨ascending_erase _ _ h.1, Nat.le_trans (List.length_filter_le _ _) h.2⟩

theorem tableKept_map {f : α → α} (hf : ∀ x, key (f x) = key x) (h : tableKept key max t) :
    tableKept key max (t.map f) :=
  ⟨ascending_map _ hf h.1, Nat.le_trans (Nat.le_of_eq (List.length_map ..)) h.2⟩

/-- An entry that is looked up by its own key has that key's place taken. -/
theorem isSome_of_lookup {x y : α} {k : Nat} (h : lookup key k t = some y) (hk : key x = k) :
    (lookup key (key x) t).isSome = true := by
  rw [hk, h]; rfl

end Table

/-! ## The Card Table (R4) -/

theorem cardTableKept_put {s : State} {e e' : CardEntry} (he : s.card? e'.data.number = some e) (h : s.cardTableKept) :
    (s.setCards (put CardEntry.key e' s.cards)).cardTableKept :=
  tableKept_replace (isSome_of_lookup (key := CardEntry.key) he rfl) h

theorem cardTableKept_setPresence {s : State} (e : CardEntry) (p : Presence) (n : Nat)
    (he : s.card? e.data.number = some e) (h : s.cardTableKept) : (s.setPresence e p n).cardTableKept := by
  obtain ⟨c, heq⟩ := State.setPresence_eq s e p n
  rw [heq]
  exact cardTableKept_put (e' := { e with presence := p, stamp := n }) he h

theorem cardTableKept_commitPassage {s : State} (p : Passage) (h : s.cardTableKept) :
    (s.commitPassage p).cardTableKept := by
  unfold State.commitPassage
  dsimp only
  split
  · unfold State.countUntracked
    split <;> exact h
  · split
    · rename_i e he
      exact cardTableKept_setPresence _ _ _ ((lookup_number he).symm ▸ he) h
    · exact h

/-- A rewrite puts the entry with its new fields into the Card Table and touches no other table. -/
theorem cards_rewriteCard (s : State) (e : CardEntry) (d : CardData) :
    (s.rewriteCard e d).cards = put CardEntry.key { e with data := d } s.cards ∧
      (s.rewriteCard e d).passage.passages = s.passage.passages := by
  unfold State.rewriteCard
  dsimp only
  split
  · exact ⟨rfl, rfl⟩
  · unfold State.moveRoll
    split
    · split <;> exact ⟨rfl, rfl⟩
    · exact ⟨rfl, rfl⟩

theorem cardTableKept_rewriteCard {s : State} (e : CardEntry) (d : CardData) (he : s.card? d.number = some e)
    (h : s.cardTableKept) : (s.rewriteCard e d).cardTableKept := by
  unfold State.cardTableKept
  rw [(cards_rewriteCard s e d).1]
  exact cardTableKept_put (e' := { e with data := d }) he h

theorem cardTableKept_enterMuster {s : State} (m : MusterState) (d : Detail) (h : s.cardTableKept) :
    (s.enterMuster m d).cardTableKept := by
  obtain ⟨q, heq⟩ := enterMuster_frame s m d
  rw [heq]
  exact tableKept_map (key := CardEntry.key) (f := unmarked) (fun _ => rfl) h

theorem execClosed_cardTableKept : ExecClosed State.cardTableKept where
  enterMuster m d _ _ h := cardTableKept_enterMuster m d h
  mark e n he _ h := cardTableKept_put (e' := { e with mark := .mustered n }) he h
  setPresence e p n he _ h := cardTableKept_setPresence e p n he h
  commitPassage p _ h := cardTableKept_commitPassage p h
  insertCard _ _ _ hroom h := tableKept_insert (key := CardEntry.key) _ hroom h
  rewriteCard e d he h := cardTableKept_rewriteCard e d he h
  removeCard e _ _ _ h := tableKept_erase (key := CardEntry.key) _ h
  cold _ _ _ := ⟨rfl, Nat.zero_le _⟩

/-! ## The Account Table (R66) -/

theorem accountTableKept_put {s : State} {a b : Account} {n : Nat} (ha : s.account? n = some a)
    (hb : b.number = a.number) (h : s.accountTableKept) :
    tableKept Account.number Config.maxAccounts (put Account.number b s.charge.accounts) :=
  tableKept_replace (isSome_of_lookup (key := Account.number) ha (hb.trans (State.account?_number ha))) h

theorem accountTableKept_offerAccount {s : State} (o : AccountOffer) (h : s.accountTableKept) :
    (offerAccount s o).1.accountTableKept := by
  unfold offerAccount
  split
  · exact h
  · dsimp only
    split
    · rename_i a ha
      (repeat' split)
      iterate 3 exact h
      exact accountTableKept_put ha rfl h
    · (repeat' split)
      iterate 3 exact h
      rename_i hroom
      exact tableKept_insert (key := Account.number) _ (Nat.not_le.1 hroom) h

theorem accountTableKept_writeAccount {s : State} (n : Nat) (st v d : Option Nat) (h : s.accountTableKept) :
    (writeAccount s n st v d).1.accountTableKept := by
  unfold writeAccount
  split
  · exact h
  · split
    · exact h
    · rename_i a ha
      dsimp only
      (repeat' split)
      iterate 3 exact h
      exact accountTableKept_put ha rfl h

theorem accountTableKept_purgeAccount {s : State} (n : Nat) (h : s.accountTableKept) :
    (purgeAccount s n).1.accountTableKept := by
  unfold purgeAccount
  (repeat' split)
  iterate 3 exact h
  exact tableKept_erase (key := Account.number) _ h

theorem accountTableKept_endHold {s : State} (x : Hold) (k : JournalKind) (amount charged : Nat)
    (h : s.accountTableKept) : (s.endHold x k amount charged).accountTableKept := by
  unfold State.endHold ChargeUnit.modifyAccount
  split
  · rename_i a ha
    exact accountTableKept_put (s := s) ha rfl h
  · exact h

theorem accountTableKept_lapseAll (hs : List Hold) {s : State} (h : s.accountTableKept) :
    (lapseAll hs s).accountTableKept := by
  induction hs generalizing s with
  | nil => exact h
  | cons x hs ih => exact ih (accountTableKept_endHold x _ _ _ h)

theorem execClosed_accountTableKept : ExecClosed State.accountTableKept where
  offerAccount o h := accountTableKept_offerAccount o h
  purgeAccount n h := accountTableKept_purgeAccount n h
  writeAccount n a b c h := accountTableKept_writeAccount n a b c h
  authorize st e a amount g r _ ha h := authorizeOn_cases st e a amount g r (fun _ h => h)
    (fun _ h => accountTableKept_put (b := { a with heldTotal := a.heldTotal + amount }) ha rfl h) h
  endHold x k amount charged _ _ h := accountTableKept_endHold x k amount charged h
  clearDaily h := tableKept_map (key := Account.number) (f := fun a => { a with dailySpent := 0 }) (fun _ => rfl) h
  lapseAll h := accountTableKept_lapseAll _ h
  cold _ _ _ := ⟨rfl, Nat.zero_le _⟩

/-! ## The Cabin Table (R44, R46) -/

/-- No Lock station is linked to two cabins. -/
def locksApart (cabins : List Cabin) : Prop :=
  ∀ c ∈ cabins, ∀ d ∈ cabins, c.data.lock ≠ none → c.data.lock = d.data.lock → c.data.number = d.data.number

theorem cabinTableKept_iff (s : State) :
    s.cabinTableKept ↔ tableKept Cabin.key Config.maxCabins s.cabins ∧ locksApart s.cabins := and_assoc.symm

/-- A cabin may be put into the table where no other cabin has its lock. -/
theorem locksApart_put {cabins : List Cabin} {c : Cabin} (hasc : ascending Cabin.key cabins = true)
    (hfree : ∀ d ∈ cabins, c.data.lock ≠ none → d.data.lock = c.data.lock → d.data.number = c.data.number)
    (h : locksApart cabins) : locksApart (put Cabin.key c cabins) := by
  intro x hx y hy hlock heq
  rcases mem_put_ne _ hasc hx with rfl | ⟨hx, -⟩
  · rcases mem_put_ne _ hasc hy with rfl | ⟨hy, -⟩
    · rfl
    · exact (hfree y hy hlock heq.symm).symm
  · rcases mem_put_ne _ hasc hy with hyc | ⟨hy, -⟩
    · rw [hyc] at heq ⊢
      exact hfree x hx (heq ▸ hlock) heq
    · exact h x hx y hy hlock heq

/-- What the lock test allows (R46 test 4): no cabin of another number has the lock. -/
theorem lockFree_of_linkAllowed {s : State} {d : CabinData} (hlink : s.linkAllowed d = true) (h : locksApart s.cabins) :
    ∀ c ∈ s.cabins, d.lock ≠ none → c.data.lock = d.lock → c.data.number = d.number := by
  intro c hc hlock heq
  unfold State.linkAllowed at hlink
  split at hlink
  · rename_i hnone
    exact absurd hnone hlock
  · rename_i st hst
    rw [Bool.and_eq_true] at hlink
    obtain ⟨-, hlink⟩ := hlink
    rw [hst] at heq
    split at hlink
    · rename_i x hx
      have hxlock : x.data.lock = some st := by simpa using List.find?_some hx
      have hnumber := h c hc x (State.cabinAt?_mem hx) (by rw [heq]; nofun) (heq.trans hxlock.symm)
      rw [hnumber]
      simpa using hlink
    · rename_i hnone
      exact absurd heq (by simpa using List.find?_eq_none.1 hnone c hc)

theorem cabinTableKept_setCabin {s : State} {c c' : Cabin} (hc : c ∈ s.cabins) (hnumber : c'.data.number = c.data.number)
    (hlock : c'.data.lock = c.data.lock) (h : s.cabinTableKept) : (s.setCabin c').cabinTableKept := by
  rw [cabinTableKept_iff] at h ⊢
  obtain ⟨htable, hlocks⟩ := h
  have hself : lookup Cabin.key (Cabin.key c) s.cabins = some c := lookup_mem Cabin.key htable.1 hc
  refine ⟨tableKept_replace (isSome_of_lookup (key := Cabin.key) hself hnumber) htable,
    locksApart_put htable.1 (fun d hd hne heq => ?_) hlocks⟩
  rw [hlock] at hne heq
  rw [hnumber]
  exact (hlocks c hc d hd hne heq.symm).symm

@[simp] theorem Cabin.data_rewrite (c : Cabin) (d : CabinData) : (c.rewrite d).data = d := by
  unfold Cabin.rewrite
  split
  · dsimp only
    split
    · rfl
    · exact Cabin.data_reevaluate _
  · rfl

theorem cabinTableKept_offerCabin {s : State} (o : CabinOffer) (h : s.cabinTableKept) :
    (offerCabin s o).1.cabinTableKept := by
  unfold offerCabin
  split
  · exact h
  · rename_i d hd
    split
    · exact h
    · rename_i hlink
      have hfree := lockFree_of_linkAllowed (by simpa using hlink) ((cabinTableKept_iff s).1 h).2
      obtain ⟨htable, hlocks⟩ := (cabinTableKept_iff s).1 h
      split
      · rename_i c hc
        refine (cabinTableKept_iff _).2 ⟨tableKept_replace (isSome_of_lookup (key := Cabin.key) hc ?_) htable,
          locksApart_put htable.1 ?_ hlocks⟩
        · rw [Cabin.key, Cabin.data_rewrite]
        · rwa [Cabin.data_rewrite]
      · split
        · exact h
        · rename_i hroom
          exact (cabinTableKept_iff _).2 ⟨tableKept_insert (key := Cabin.key) _ (Nat.not_le.1 hroom) htable,
            locksApart_put htable.1 hfree hlocks⟩

theorem cabinTableKept_purgeCabin {s : State} (n : Nat) (h : s.cabinTableKept) : (purgeCabin s n).1.cabinTableKept := by
  unfold purgeCabin
  split; · exact h
  split; · exact h
  obtain ⟨htable, hlocks⟩ := (cabinTableKept_iff s).1 h
  exact (cabinTableKept_iff _).2 ⟨tableKept_erase (key := Cabin.key) _ htable,
    fun c hc d hd => hlocks c (List.mem_filter.1 hc).1 d (List.mem_filter.1 hd).1⟩

theorem cabinTableKept_afterWarm {s : State} (h : s.cabinTableKept) :
    (s.setCabins (s.cabins.map Cabin.afterWarm)).cabinTableKept := by
  obtain ⟨htable, hlocks⟩ := (cabinTableKept_iff s).1 h
  refine (cabinTableKept_iff _).2 ⟨tableKept_map (key := Cabin.key) (f := Cabin.afterWarm) (fun _ => rfl) htable, ?_⟩
  intro c hc d hd
  obtain ⟨x, hx, rfl⟩ := List.mem_map.1 hc
  obtain ⟨y, hy, rfl⟩ := List.mem_map.1 hd
  exact hlocks x hx y hy

theorem execClosed_cabinTableKept : ExecClosed State.cabinTableKept where
  setCabin _ _ hc hnumber hlock h := cabinTableKept_setCabin hc hnumber hlock h
  offerCabin o h := cabinTableKept_offerCabin o h
  purgeCabin n h := cabinTableKept_purgeCabin n h
  cabinsAfterWarm h := cabinTableKept_afterWarm h
  cold _ _ _ := ⟨rfl, Nat.zero_le _, fun _ hc => nomatch hc⟩

/-! ## The pending passages (R108) -/

/-- Two pending passages have gates and cards apart. -/
def passagesApart (p q : Passage) : Prop := p.gate ≠ q.gate ∧ (p.card ≠ none → p.card ≠ q.card)

theorem passagesApart_symm {p q : Passage} (h : passagesApart p q) : passagesApart q p :=
  ⟨h.1.symm, fun hq heq => h.2 (heq ▸ hq) heq.symm⟩

/-- An entry that stands to all others in a symmetric relation may be put among them. -/
theorem pairwise_put {α : Type} (key : α → Nat) {R : α → α → Prop} (hsymm : ∀ {a b}, R a b → R b a) {x : α} {t : List α}
    (hx : ∀ y ∈ t, R x y) (h : t.Pairwise R) : (put key x t).Pairwise R := by
  induction t with
  | nil => exact List.pairwise_singleton R x
  | cons y ys ih =>
    obtain ⟨hy, hys⟩ := List.pairwise_cons.1 h
    unfold put
    split
    · exact List.pairwise_cons.2 ⟨hx, h⟩
    · split
      · exact List.pairwise_cons.2 ⟨fun z hz => hx z (List.mem_cons_of_mem y hz), hys⟩
      · refine List.pairwise_cons.2 ⟨fun z hz => ?_, ih (fun z hz => hx z (List.mem_cons_of_mem y hz)) hys⟩
        rcases mem_put _ hz with rfl | hz
        · exact hsymm (hx y List.mem_cons_self)
        · exact hy z hz

/-- Fewer passages and no card less: they stay apart, with their cards in the table. -/
theorem passagesKept_of_sublist {s t : State} (hps : t.passage.passages.Sublist s.passage.passages)
    (hcards : ∀ n, (∃ p ∈ t.passage.passages, p.card = some n) → (s.card? n).isSome → (t.card? n).isSome)
    (h : s.passagesKept) : t.passagesKept :=
  ⟨h.1.sublist hps, fun p hp n hn => hcards n ⟨p, hp, hn⟩ (h.2 p (hps.subset hp) n hn)⟩

theorem passagesKept_setPresence {s : State} (e : CardEntry) (p : Presence) (n : Nat) (h : s.passagesKept) :
    (s.setPresence e p n).passagesKept := by
  obtain ⟨c, heq⟩ := State.setPresence_eq s e p n
  rw [heq]
  exact passagesKept_of_sublist (s := s) (List.Sublist.refl _)
    (fun _ _ hsome => lookup_isSome_put (key := CardEntry.key) _ hsome) h

theorem passagesKept_dropPassages {s : State} {ps : List Passage} (hps : ps.Sublist s.passage.passages)
    (h : s.passagesKept) : (s.setPassages ps).passagesKept :=
  passagesKept_of_sublist (s := s) (t := s.setPassages ps) hps (fun _ _ h => h) h

theorem passagesKept_commitPassage {s : State} (p : Passage) (h : s.passagesKept) : (s.commitPassage p).passagesKept := by
  have hclosed : (s.closePassage p.gate).passagesKept := passagesKept_dropPassages List.filter_sublist h
  unfold State.commitPassage
  dsimp only
  split
  · unfold State.countUntracked
    split <;> exact hclosed
  · split
    · exact passagesKept_setPresence _ _ _ hclosed
    · exact hclosed

theorem passagesKept_rewriteCard {s : State} (e : CardEntry) (d : CardData) (h : s.passagesKept) :
    (s.rewriteCard e d).passagesKept := by
  obtain ⟨hcards, hpassages⟩ := cards_rewriteCard s e d
  refine passagesKept_of_sublist (s := s) (by rw [hpassages]) (fun n _ hsome => ?_) h
  unfold State.card?
  rw [hcards]
  exact lookup_isSome_put (key := CardEntry.key) _ hsome

theorem passagesKept_enterMuster {s : State} (m : MusterState) (d : Detail) (h : s.passagesKept) :
    (s.enterMuster m d).passagesKept := by
  obtain ⟨q, heq⟩ := enterMuster_frame s m d
  rw [heq]
  refine passagesKept_of_sublist (s := s) List.filter_sublist (fun n _ hsome => ?_) h
  show (lookup CardEntry.key n (s.cards.map unmarked)).isSome = true
  rw [lookup_map CardEntry.key (f := unmarked) (fun _ => rfl), Option.isSome_map]
  exact hsome

theorem passagesKept_openPassage {s : State} (gate : Station) (c : Option Nat) (d : Direction)
    (hfree : ∀ q ∈ s.passage.passages, q.gate ≠ gate ∧ (c = none ∨ q.card ≠ c))
    (hcard : ∀ n, c = some n → (s.card? n).isSome) (h : s.passagesKept) : (s.openPassage gate c d).passagesKept := by
  refine ⟨pairwise_put _ passagesApart_symm (fun q hq => ?_) h.1, fun p hp n hn => ?_⟩
  · obtain ⟨hgate, hcards⟩ := hfree q hq
    exact ⟨hgate.symm, fun hsome => (hcards.resolve_left hsome).symm⟩
  · rcases mem_put _ hp with rfl | hp
    · exact hcard n hn
    · exact h.2 p hp n hn

theorem passagesKept_removeCard {s : State} (e : CardEntry)
    (hpending : ∀ p ∈ s.passage.passages, p.card ≠ some e.data.number) (h : s.passagesKept) :
    (s.removeCard e).passagesKept := by
  refine passagesKept_of_sublist (s := s) (List.Sublist.refl _) (fun n ⟨p, hp, hn⟩ hsome => ?_) h
  have hne : n ≠ e.data.number := fun heq => hpending p hp (heq ▸ hn)
  show (lookup CardEntry.key n (erase CardEntry.key e.data.number s.cards)).isSome = true
  rwa [lookup_erase_other _ hne]

theorem execClosed_passagesKept : ExecClosed State.passagesKept where
  enterMuster m d _ _ h := passagesKept_enterMuster m d h
  mark {s} e n _ _ h := passagesKept_of_sublist (s := s) (t := s.setMark e n) (List.Sublist.refl _)
    (fun _ _ hsome => lookup_isSome_put (key := CardEntry.key) _ hsome) h
  setPresence e p n _ _ h := passagesKept_setPresence e p n h
  commitPassage p _ h := passagesKept_commitPassage p h
  port {s} x _ hpassages h := passagesKept_of_sublist (s := s) (t := s.setPassage x) (by
    rw [State.passage_setPassage, hpassages]) (fun _ _ h => h) h
  openPassage gate c d _ hfree hcard h := passagesKept_openPassage gate c d hfree hcard h
  dropPassages _ hps h := passagesKept_dropPassages hps h
  insertCard {s} d p _ _ h := passagesKept_of_sublist (s := s) (t := s.insertCard d p) (List.Sublist.refl _)
    (fun _ _ hsome => lookup_isSome_put (key := CardEntry.key) _ hsome) h
  rewriteCard e d _ h := passagesKept_rewriteCard e d h
  removeCard e _ _ hpending h := passagesKept_removeCard e hpending h
  cold _ _ _ := ⟨List.Pairwise.nil, fun _ hp => nomatch hp⟩

theorem passagesKept_countTime {s : State} (h : s.passagesKept) : s.countTime.passagesKept := by
  refine ⟨List.pairwise_map.2 h.1, fun p hp n hn => ?_⟩
  obtain ⟨q, hq, rfl⟩ := List.mem_map.1 hp
  exact h.2 q hq n hn

/-! ## The profile (R194) -/

theorem execClosed_profile : ExecClosed (fun s => s.engine.profile.legal) where
  engine {s} x hprofile h := by
    show x.profile.legal
    rwa [hprofile]
  profile _ _ _ hread _ := ((readProfile_eq_some_iff _ _).1 hread).1
  cold _ _ _ := by
    show Profile.default.legal
    unfold Profile.legal Profile.default
    decide

end Sys2Proof.Proofs

/-! PROOF. The Referral List and the open requests (R31, R143), and the verdicts that are polled (R26, R32), line by
line: what each change of a line has to keep. -/

namespace Sys2Proof.Proofs

open Sys2Proof.Machine Sys2Proof.Claims

/-! ## Open requests and polled verdicts of one line -/

/-- The open request of the station at an address of a line. -/
def openIn (x : Line) (addr : Nat) : Option OpenRequest :=
  (lookup StationRec.addr addr x.stations).bind StationRec.openRequest

/-- The Poll on the wire carries a verdict to an address, whose Reply is taken. -/
def pollsVerdict (x : Line) (addr : Nat) : Prop :=
  ∃ e n v, x.exchange = some e ∧ e.taken = true ∧ e.content = .verdict n v ∧ e.addr = addr

/-- The request is still to be decided. -/
def openRequestDeciding (x : Line) (addr number : Nat) : Prop :=
  ∃ q, openIn x addr = some q ∧ q.state = .deciding ∧ q.number = number

/-- The open request has a verdict. -/
def openRequestDecided (x : Line) (addr : Nat) : Prop := ∃ q, openIn x addr = some q ∧ q.state ≠ .deciding

theorem openIn_eq_some_iff (x : Line) (addr : Nat) (q : OpenRequest) :
    openIn x addr = some q ↔ ∃ r, lookup StationRec.addr addr x.stations = some r ∧ r.openRequest = some q :=
  Option.bind_eq_some_iff

/-- The open request of an enrolled station is that of its record. -/
theorem openIn_of_station? {s : State} {st : Station} {r : StationRec} (h : s.station? st = some r) :
    openIn (s.line st.line) st.addr = r.openRequest := by
  rw [openIn, show lookup StationRec.addr st.addr (s.line st.line).stations = some r from h]
  rfl

theorem not_pollsVerdict {x : Line} (h : x.exchange = none) (addr : Nat) : ¬pollsVerdict x addr := by
  rintro ⟨e, n, v, he, -⟩
  rw [h] at he
  nomatch he

/-! ## The invariant -/

/-- Every referral's request is Deciding, and a verdict is polled of a decided request only. -/
def requestsKept (s : State) : Prop :=
  (s.referral.list.length ≤ Config.maxReferrals ∧ (∀ r ∈ s.referral.list, 1 ≤ r.tag ∧ r.tag ≤ Config.maxWord16) ∧
    (s.referral.list.map Referral.tag).Nodup ∧ (s.referral.list.map fun r => r.presentation.station).Nodup) ∧
  (∀ r ∈ s.referral.list, openRequestDeciding (s.line r.presentation.station.line) r.presentation.station.addr r.number) ∧
  ∀ l addr, pollsVerdict (s.line l) addr → openRequestDecided (s.line l) addr

theorem requestsKept_iff (s : State) : requestsKept s ↔ s.referralsKept ∧ s.verdictsKept := by
  have hdeciding : ∀ r : Referral,
      openRequestDeciding (s.line r.presentation.station.line) r.presentation.station.addr r.number ↔
        ∃ x q, s.station? r.presentation.station = some x ∧ x.openRequest = some q ∧ q.state = .deciding ∧
          q.number = r.number := by
    intro r
    simp only [openRequestDeciding, openIn_eq_some_iff]
    exact ⟨fun ⟨q, ⟨x, hx, hq⟩, h⟩ => ⟨x, q, hx, hq, h⟩, fun ⟨x, q, hx, hq, h⟩ => ⟨q, ⟨x, hx, hq⟩, h⟩⟩
  have hdecided : (∀ l addr, pollsVerdict (s.line l) addr → openRequestDecided (s.line l) addr) ↔ s.verdictsKept := by
    simp only [openRequestDecided, openIn_eq_some_iff]
    constructor
    · intro h l e n v he htaken hcontent
      obtain ⟨q, ⟨x, hx, hq⟩, hstate⟩ := h l e.addr ⟨e, n, v, he, htaken, hcontent, rfl⟩
      exact ⟨x, q, hx, hq, hstate⟩
    · rintro h l addr ⟨e, n, v, he, htaken, hcontent, rfl⟩
      obtain ⟨x, q, hx, hq, hstate⟩ := h l e n v he htaken hcontent
      exact ⟨q, ⟨x, hx, hq⟩, hstate⟩
  unfold requestsKept State.referralsKept
  rw [hdecided]
  simp only [hdeciding, and_assoc]

/-- A change of the state that leaves the lines and the Referral List. -/
def sameLines (s t : State) : Prop := t.lines = s.lines ∧ t.referral = s.referral

/-- The job units and the tables' owners touch neither the lines nor the Referral List. -/
theorem jobClosed_sameLines (s : State) : JobClosed (sameLines s) := {}

theorem sameLines_refl (s : State) : sameLines s s := ⟨rfl, rfl⟩

theorem requestsKept_of_sameLines {s t : State} (hst : sameLines s t) (h : requestsKept s) : requestsKept t := by
  obtain ⟨hlines, hreferral⟩ := hst
  unfold requestsKept State.line at h ⊢
  rwa [hlines, hreferral]

/-- Fewer referrals. -/
theorem requestsKept_of_sublist {s : State} {rs : List Referral} (hrs : rs.Sublist s.referral.list)
    (h : requestsKept s) : requestsKept (s.setReferral { s.referral with list := rs }) := by
  obtain ⟨⟨hlen, htags, hapart, hstations⟩, hdeciding, hdecided⟩ := h
  exact ⟨⟨Nat.le_trans hrs.length_le hlen, fun r hr => htags r (hrs.subset hr), hapart.sublist (hrs.map _),
    hstations.sublist (hrs.map _)⟩, fun r hr => hdeciding r (hrs.subset hr), hdecided⟩

/-! ## Changes of one line -/

theorem requestsKept_setLine {s : State} {l : LineNo} {x : Line}
    (hdeciding : ∀ r ∈ s.referral.list, r.presentation.station.line = l →
      openRequestDeciding (s.line l) r.presentation.station.addr r.number →
      openRequestDeciding x r.presentation.station.addr r.number)
    (hdecided : ∀ addr, pollsVerdict x addr → openRequestDecided x addr) (h : requestsKept s) :
    requestsKept (s.setLine l x) := by
  obtain ⟨hlist, hdec, hpolls⟩ := h
  refine ⟨hlist, fun r hr => ?_, fun m addr hpoll => ?_⟩
  · by_cases hl : r.presentation.station.line = l
    · have hold := hdec r hr
      rw [hl] at hold ⊢
      rw [State.line_setLine_self]
      exact hdeciding r hr hl hold
    · rw [State.line_setLine_other _ hl]
      exact hdec r hr
  · by_cases hm : m = l
    · subst hm
      rw [State.line_setLine_self] at hpoll ⊢
      exact hdecided addr hpoll
    · rw [State.line_setLine_other _ hm] at hpoll ⊢
      exact hpolls m addr hpoll

/-- A change of a line that leaves its open requests, and polls no verdict that was not polled before. -/
theorem requestsKept_setLine_same {s : State} {l : LineNo} {x : Line} (hopen : openIn x = openIn (s.line l))
    (hpolls : ∀ addr, pollsVerdict x addr → pollsVerdict (s.line l) addr) (h : requestsKept s) :
    requestsKept (s.setLine l x) := by
  refine requestsKept_setLine (fun r _ _ hold => ?_) (fun addr hpoll => ?_) h
  · rwa [openRequestDeciding, hopen]
  · rw [openRequestDecided, hopen]
    exact h.2.2 l addr (hpolls addr hpoll)

/-- The same, with no exchange left on the line. -/
theorem requestsKept_setLine_free {s : State} {l : LineNo} {x : Line} (hopen : openIn x = openIn (s.line l))
    (hfree : x.exchange = none) (h : requestsKept s) : requestsKept (s.setLine l x) :=
  requestsKept_setLine_same hopen (fun addr hpoll => absurd hpoll (not_pollsVerdict hfree addr)) h

/-- The open requests of a line that changes each station's record but for its address and open request. -/
theorem openIn_map {x y : Line} {f : StationRec → StationRec} (haddr : ∀ r, (f r).addr = r.addr)
    (hopen : ∀ r, (f r).openRequest = r.openRequest) (hx : y.stations = x.stations.map f) : openIn y = openIn x := by
  funext addr
  unfold openIn
  rw [hx, lookup_map _ haddr]
  cases lookup StationRec.addr addr x.stations with
  | none => rfl
  | some r => exact hopen r

theorem openIn_of_stations {x y : Line} (h : y.stations = x.stations) : openIn y = openIn x := by
  funext addr
  rw [openIn, openIn, h]

/-- The open requests of a line in which a record has taken its slot. -/
theorem openIn_put {x y : Line} {r : StationRec} (hy : y.stations = put StationRec.addr r x.stations) (addr : Nat) :
    openIn y addr = if addr = r.addr then r.openRequest else openIn x addr := by
  unfold openIn
  rw [hy]
  split
  · rename_i haddr
    rw [haddr, lookup_put_self]
    rfl
  · rename_i haddr
    rw [lookup_put_other _ haddr]

theorem openIn_put_same {x y : Line} {r : StationRec} (hy : y.stations = put StationRec.addr r x.stations)
    (hr : r.openRequest = openIn x r.addr) : openIn y = openIn x := by
  funext addr
  rw [openIn_put hy]
  split
  · rename_i haddr
    rw [hr, haddr]
  · rfl

/-- A record takes its station's slot with the open request as it stands. -/
theorem requestsKept_setStation_same {s : State} {st : Station} {r r' : StationRec} (hr : s.station? st = some r)
    (haddr : r'.addr = st.addr) (hopen : r'.openRequest = r.openRequest) (h : requestsKept s) :
    requestsKept (s.setStation st.line r') := by
  refine requestsKept_setLine_same (openIn_put_same rfl ?_) (fun _ hpoll => hpoll) h
  rw [haddr, openIn_of_station? hr]
  exact hopen

/-! ## Stations without a referral -/

/-- The requests are kept, and no referral waits for a station. -/
def requestFree (st : Station) (s : State) : Prop :=
  requestsKept s ∧ ∀ r ∈ s.referral.list, r.presentation.station ≠ st

theorem requestFree_of_sameLines {s t : State} {st : Station} (hst : sameLines s t) (h : requestFree st s) :
    requestFree st t :=
  ⟨requestsKept_of_sameLines hst h.1, hst.2 ▸ h.2⟩

/-- A station whose request is not Deciding has no referral. -/
theorem requestFree_of_not_deciding {s : State} {st : Station}
    (hopen : ∀ q, openIn (s.line st.line) st.addr = some q → q.state ≠ .deciding) (h : requestsKept s) :
    requestFree st s := by
  refine ⟨h, fun r hr hst => ?_⟩
  obtain ⟨q, hq, hdeciding, -⟩ := h.2.1 r hr
  rw [hst] at hq
  exact hopen q hq hdeciding

/-- A station without a referral may take any open request while no Poll is on its line. -/
theorem requestFree_setStation {s : State} {st : Station} {r : StationRec} (haddr : r.addr = st.addr)
    (hpoll : pollsVerdict (s.line st.line) st.addr → ∃ q, r.openRequest = some q ∧ q.state ≠ .deciding)
    (h : requestFree st s) : requestFree st (s.setStation st.line r) := by
  refine ⟨requestsKept_setLine (fun x hx hl hold => ?_) (fun addr hpolls => ?_) h.1, h.2⟩
  · have hne : x.presentation.station.addr ≠ r.addr := fun heq => h.2 x hx (by
      rw [haddr] at heq
      cases hst : x.presentation.station
      cases st
      simp_all)
    rwa [openRequestDeciding, openIn_put rfl, if_neg hne]
  · rw [openRequestDecided, openIn_put rfl]
    split
    · rename_i heq
      rw [heq, haddr] at hpolls
      exact hpoll hpolls
    · exact h.1.2.2 _ addr hpolls

/-- The verdict of a request is taken where no referral of its station is left. -/
theorem requestFree_takeVerdict {s : State} {st : Station} (n : Nat) (c : Bool) (v : Verdict) (h : requestFree st s) :
    requestFree st (s.takeVerdict st n c v) := by
  have hdrop : requestFree st (s.dropVerdict st c v) := by
    unfold State.dropVerdict
    split
    · exact requestFree_of_sameLines ((jobClosed_sameLines s).abandonPassage _ _ (sameLines_refl s)) h
    · exact h
  unfold State.takeVerdict
  split
  · exact hdrop
  · rename_i r hr
    split
    · exact hdrop
    · have haddr := State.station?_addr hr
      split
      · exact requestFree_setStation haddr (fun _ => ⟨_, rfl, nofun⟩) h
      · exact hdrop

theorem requestFree_writeRepeat {s : State} {st : Station} (card : Nat) (h : requestFree st s) :
    requestFree st (s.writeRepeat st card) := by
  unfold State.writeRepeat
  split
  · exact h
  · rename_i r hr
    have haddr := State.station?_addr hr
    split
    · exact ⟨requestsKept_setStation_same hr haddr rfl h.1, h.2⟩
    · exact h

theorem requestFree_giveVerdict {s : State} {p : Presentation} (n : Nat) (v : Verdict) (h : requestFree p.station s) :
    requestFree p.station (s.giveVerdict p n v) :=
  requestFree_takeVerdict n _ v (requestFree_of_sameLines
    ((jobClosed_sameLines _).recordGesture p v.reason (sameLines_refl _)) (requestFree_writeRepeat p.card h))

/-! ## Referrals made and ended -/

theorem requestFree_fallback {s : State} {p : Presentation} (n : Nat) (why : FallbackCause)
    (h : requestFree p.station s) : requestFree p.station (s.fallback p n why) := by
  have hdecided : sameLines s (decideFallback s p).1 := by
    unfold decideFallback
    split
    · exact (jobClosed_sameLines s).decideGrant p (sameLines_refl s)
    · exact sameLines_refl s
  exact requestFree_of_sameLines (t := s.fallback p n why) ⟨rfl, rfl⟩
    (requestFree_giveVerdict n _ (requestFree_of_sameLines hdecided h))

/-- A station whose request was taken and is still to be decided, and has no referral yet. -/
def awaitsDecision (st : Station) (number : Nat) (s : State) : Prop :=
  requestFree st s ∧ openRequestDeciding (s.line st.line) st.addr number

theorem awaitsDecision_of_sameLines {s t : State} {st : Station} {n : Nat} (hst : sameLines s t)
    (h : awaitsDecision st n s) : awaitsDecision st n t := by
  refine ⟨requestFree_of_sameLines hst h.1, ?_⟩
  have := h.2
  unfold State.line at this ⊢
  rwa [hst.1]

theorem requestsKept_createReferral {s : State} {p : Presentation} {n : Nat} (cause : ReferralCause)
    (hroom : s.referral.list.length < Config.maxReferrals) (h : awaitsDecision p.station n s) :
    requestsKept (s.createReferral p n cause) := by
  obtain ⟨⟨⟨⟨hlen, htags, hapart, hstations⟩, hdeciding, hdecided⟩, hfree⟩, hopen⟩ := h
  have hmax : Config.maxReferrals < Config.maxWord16 := by decide
  obtain ⟨hnew, hlow, hhigh, -⟩ := nextTag_given (s.referral.list.map Referral.tag) s.referral.lastTag (by
    rw [List.length_map]; omega)
  rw [List.length_map] at hnew hlow hhigh
  unfold State.createReferral
  rw [State.send_eq]
  refine ⟨⟨?_, ?_, ?_, ?_⟩, ?_, hdecided⟩
  · rw [State.referral_setTrunk, State.referral_setReferral, List.length_append]
    exact hroom
  · intro r hr
    rcases List.mem_append.1 hr with hr | hr
    · exact htags r hr
    · obtain rfl := List.mem_singleton.1 hr
      exact ⟨hlow, hhigh⟩
  · rw [State.referral_setTrunk, State.referral_setReferral, List.map_append]
    refine List.nodup_append.2 ⟨hapart, List.nodup_singleton _, fun a ha b hb hab => ?_⟩
    obtain rfl := List.mem_singleton.1 hb
    exact hnew ((show a = nextTag _ _ _ from hab) ▸ ha)
  · rw [State.referral_setTrunk, State.referral_setReferral, List.map_append]
    refine List.nodup_append.2 ⟨hstations, List.nodup_singleton _, fun a ha b hb hab => ?_⟩
    obtain rfl := List.mem_singleton.1 hb
    obtain ⟨r, hr, hstation⟩ := List.mem_map.1 ha
    exact hfree r hr (hstation.trans hab)
  · intro r hr
    rcases List.mem_append.1 hr with hr | hr
    · exact hdeciding r hr
    · obtain rfl := List.mem_singleton.1 hr
      exact hopen

theorem requestsKept_refer {s : State} {p : Presentation} {n : Nat} (cause : ReferralCause)
    (h : awaitsDecision p.station n s) : requestsKept (s.refer p n cause) := by
  unfold State.refer
  split
  · exact (requestFree_fallback n _ h.1).1
  · split
    · rename_i hroom
      exact requestsKept_createReferral cause hroom h
    · exact (requestFree_fallback n _ h.1).1

/-- A referral that has left the list leaves its station without one. -/
theorem requestFree_dropReferral {s : State} {r : Referral} (hr : r ∈ s.referral.list) (h : requestsKept s) :
    requestFree r.presentation.station (s.dropReferral r.tag) := by
  refine ⟨requestsKept_of_sublist List.filter_sublist h, fun x hx hstation => ?_⟩
  obtain ⟨hmem, htag⟩ := List.mem_filter.1 hx
  have hsame : x = r := List.inj_on_of_nodup_map h.1.2.2.2 hmem hr hstation
  rw [hsame] at htag
  simp at htag

theorem requestsKept_timeoutReferral {s : State} {r : Referral} (hr : r ∈ s.referral.list) (h : requestsKept s) :
    requestsKept (s.timeoutReferral r) :=
  (requestFree_fallback _ _ (requestFree_dropReferral hr h)).1

theorem State.referral_setStation (s : State) (l : LineNo) (r : StationRec) :
    (s.setStation l r).referral = s.referral := rfl

/-- A fallback makes and ends no referral. -/
theorem State.referral_fallback (s : State) (p : Presentation) (n : Nat) (why : FallbackCause) :
    (s.fallback p n why).referral = s.referral := by
  have htake : ∀ (t : State) (c : Bool) (v : Verdict), (t.takeVerdict p.station n c v).referral = t.referral := by
    intro t c v
    have hdrop : (t.dropVerdict p.station c v).referral = t.referral := by
      unfold State.dropVerdict
      split
      · exact ((jobClosed_sameLines t).abandonPassage _ _ (sameLines_refl t)).2
      · rfl
    unfold State.takeVerdict
    split; · exact hdrop
    split; · exact hdrop
    split
    · rfl
    · exact hdrop
  have hrepeat : ∀ t : State, (t.writeRepeat p.station p.card).referral = t.referral := by
    intro t
    unfold State.writeRepeat
    (repeat' split) <;> rfl
  have hdecided : (decideFallback s p).1.referral = s.referral := by
    unfold decideFallback
    split
    · exact ((jobClosed_sameLines s).decideGrant p (sameLines_refl s)).2
    · rfl
  show (State.giveVerdict _ p n _).referral = _
  unfold State.giveVerdict
  rw [htake, ((jobClosed_sameLines _).recordGesture p _ (sameLines_refl _)).2, hrepeat, hdecided]

/-- All referrals end, oldest first, each of them alone in having its tag and its station. -/
theorem requestsKept_fallbackAll (rs : List Referral) {s : State} (hrs : s.referral.list = rs) (h : requestsKept s) :
    requestsKept (fallbackAll rs s) := by
  induction rs generalizing s with
  | nil => exact h
  | cons r rs ih =>
    have hr : r ∈ s.referral.list := by rw [hrs]; exact List.mem_cons_self
    refine ih ?_ (requestFree_fallback r.number .trunkLoss (requestFree_dropReferral hr h)).1
    rw [State.referral_fallback]
    have hapart := h.1.2.2.1
    rw [hrs, List.map_cons, List.nodup_cons] at hapart
    show s.referral.list.filter _ = rs
    rw [hrs, List.filter_cons_of_neg (by simp)]
    refine List.filter_eq_self.2 fun x hx => ?_
    have hne : x.tag ≠ r.tag := fun heq => hapart.1 (heq ▸ List.mem_map_of_mem hx)
    simpa using hne

end Sys2Proof.Proofs

/-! PROOF. The requests of the reader lines keep the referrals and the verdicts polled: requests handed on, Answers,
Replies and misses (R26-R32, R142-R154). -/

namespace Sys2Proof.Proofs

open Sys2Proof.Machine Sys2Proof.Claims

/-! ## Requests handed on -/

theorem requestsKept_decidePresentation {s : State} {p : Presentation} {n : Nat} (h : awaitsDecision p.station n s) :
    requestsKept (s.decidePresentation p n) := by
  have hreported : ∀ {t : State} (v : Verdict), sameLines s t → requestsKept (t.giveVerdict p n v) :=
    fun v hst => (requestFree_giveVerdict n v (requestFree_of_sameLines hst h.1)).1
  unfold State.decidePresentation
  split
  · refine hreported _ ?_
    split <;> exact ⟨rfl, rfl⟩
  · split
    · exact (requestFree_takeVerdict n _ _ h.1).1
    · split
      · exact requestsKept_refer _ h
      · rename_i e he
        split
        · exact hreported _ ((jobClosed_sameLines s).refuseBy _ _ (sameLines_refl s))
        · exact requestsKept_refer _ h
        · have hnumber := State.card?_number he
          exact hreported _ ((jobClosed_sameLines s).decideJob _ _ (hnumber ▸ he) (sameLines_refl s))

theorem requestsKept_terminalVerdict {s : State} {st : Station} {n : Nat} {r : State × Reason} (hr : sameLines s r.1)
    (h : requestFree st s) : requestsKept (terminalVerdict st n r) :=
  (requestFree_takeVerdict n _ _ (requestFree_of_sameLines hr h)).1

/-- A presentation that is read is one of its station. -/
theorem station_of_readPresentation {st : Station} {k : StationKind} {v c i : Nat} {part : KindPart} {p : Presentation}
    (h : readPresentation st k v c i part = some p) : p.station = st := by
  unfold readPresentation at h
  split at h
  · split at h
    · cases h; rfl
    · cases h
  · cases h

theorem requestsKept_takeRequest {s : State} {st : Station} {n : Nat} (k : StationKind) (q : Request)
    (h : awaitsDecision st n s) : requestsKept (s.takeRequest st k n q) := by
  have hrefused : requestsKept (terminalVerdict st n (s, .parameter)) :=
    requestsKept_terminalVerdict (sameLines_refl s) h.1
  have hjob := jobClosed_sameLines s
  unfold State.takeRequest
  split
  · split
    · exact hrefused
    · rename_i hp
      have hst := station_of_readPresentation hp
      subst hst
      exact requestsKept_decidePresentation h
  · split
    · exact requestsKept_terminalVerdict (hjob.decideComplete _ _ _ (sameLines_refl s)) h.1
    · exact hrefused
  · split
    · exact requestsKept_terminalVerdict (hjob.decideCancel _ _ (sameLines_refl s)) h.1
    · exact hrefused
  · split
    · exact requestsKept_terminalVerdict (hjob.decideReport _ _ (sameLines_refl s)) h.1
    · exact hrefused

/-! ## Answers -/

theorem requestFree_redecide {s : State} (r : Referral) (v : AnswerVerdict) (h : requestFree r.presentation.station s) :
    requestFree r.presentation.station (s.redecide r v) := by
  have hjob := jobClosed_sameLines s
  unfold State.redecide
  dsimp only
  split
  · exact requestFree_giveVerdict _ _ h
  · rename_i e he
    have hnumber := State.card?_number he
    split
    · exact requestFree_giveVerdict _ _ (requestFree_of_sameLines (hjob.refuseBy _ _ (sameLines_refl s)) h)
    · exact requestFree_giveVerdict _ _ h
    · split
      · exact requestFree_giveVerdict _ _ h
      · exact requestFree_giveVerdict _ _
          (requestFree_of_sameLines (hjob.decideJob _ _ (hnumber ▸ he) (sameLines_refl s)) h)

theorem requestFree_decideAnswered {s : State} (r : Referral) (v : AnswerVerdict)
    (h : requestFree r.presentation.station s) : requestFree r.presentation.station (s.decideAnswered r v) := by
  unfold State.decideAnswered
  split
  · exact requestFree_giveVerdict _ _ h
  · exact requestFree_giveVerdict _ _
      (requestFree_of_sameLines ((jobClosed_sameLines s).decideGrant _ (sameLines_refl s)) h)

/-- A referral found by its tag is held, and has that tag. -/
theorem referral?_some {s : State} {tag : Nat} {r : Referral} (h : s.referral? tag = some r) :
    r ∈ s.referral.list ∧ r.tag = tag := by
  unfold State.referral? at h
  split at h
  · cases h
  · exact ⟨List.mem_of_find?_eq_some h, by simpa using List.find?_some h⟩

theorem requestsKept_takeAnswer {s : State} (tag : Nat) (v : AnswerVerdict) (e : Option CardOffer) (h : requestsKept s) :
    requestsKept (takeAnswer s tag v e).1 := by
  unfold takeAnswer
  split
  · rename_i r hr
    obtain ⟨hmem, rfl⟩ := referral?_some hr
    have hinstalled := requestFree_of_sameLines
      ((jobClosed_sameLines _).installCard (some r.presentation.card) e (sameLines_refl (s.dropReferral r.tag)))
      (requestFree_dropReferral hmem h)
    dsimp only
    split
    · exact (requestFree_redecide r v hinstalled).1
    · exact (requestFree_decideAnswered r v hinstalled).1
  · exact requestsKept_of_sameLines ((jobClosed_sameLines s).installCard none e ⟨rfl, rfl⟩) h

/-! ## Ends of exchanges, notices, settings that take hold -/

theorem Line.stations_settleRound (x : Line) : x.settleRound.stations = x.stations := by
  unfold Line.settleRound
  split <;> rfl

theorem Line.exchange_settleRound (x : Line) : x.settleRound.exchange = x.exchange := by
  unfold Line.settleRound
  split <;> rfl

theorem Line.stations_endExchange (x : Line) : x.endExchange.stations = x.stations :=
  Line.stations_settleRound _

theorem Line.exchange_endExchange (x : Line) : x.endExchange.exchange = none :=
  Line.exchange_settleRound _

theorem requestsKept_endExchange {s : State} (l : LineNo) (h : requestsKept s) :
    requestsKept (s.modifyLine l Line.endExchange) :=
  requestsKept_setLine_free (openIn_of_stations (Line.stations_endExchange _)) (Line.exchange_endExchange _) h

/-- The end of an exchange leaves every station's record. -/
theorem station?_endExchange (s : State) (l : LineNo) (st : Station) :
    (s.modifyLine l Line.endExchange).station? st = s.station? st := by
  unfold State.station? State.modifyLine
  by_cases hl : st.line = l
  · subst hl
    rw [State.line_setLine_self, Line.stations_endExchange]
  · rw [State.line_setLine_other _ hl]

theorem exchange_line_endExchange (s : State) (l : LineNo) :
    ((s.modifyLine l Line.endExchange).line l).exchange = none := by
  rw [State.modifyLine, State.line_setLine_self, Line.exchange_endExchange]

theorem requestsKept_settleIfClear {s : State} (l : LineNo) (h : requestsKept s) :
    requestsKept (s.modifyLine l Line.settleIfClear) := by
  unfold State.modifyLine Line.settleIfClear
  split
  · split
    · exact requestsKept_setLine_same rfl (fun _ h => h) h
    · exact requestsKept_setLine_free rfl rfl h
  · exact requestsKept_setLine_same rfl (fun _ h => h) h

theorem requestsKept_oweNotice {s : State} (st : Station) (n : Notice) (h : requestsKept s) :
    requestsKept (s.oweNotice st n) := by
  unfold State.oweNotice
  split
  · exact h
  · rename_i r hr
    have haddr := State.station?_addr hr
    have howed : requestsKept (s.setStation st.line { r with notice := some n }) :=
      requestsKept_setStation_same hr haddr rfl h
    dsimp only
    split
    · rename_i x hx
      split
      · refine requestsKept_setLine_same rfl (fun addr ⟨e, m, v, he, htaken, hcontent, ha⟩ => ?_) howed
        obtain rfl := Option.some.inj he
        exact ⟨x, m, v, hx, htaken, hcontent, ha⟩
      · exact howed
    · exact howed

/-! ## Misses -/

/-- A Present station that becomes Absent loses its referral before its open request. -/
theorem requestsKept_makeAbsent {s : State} {l : LineNo} {r : StationRec} (n : Nat)
    (hfree : (s.line l).exchange = none) (h : requestsKept s) : requestsKept (s.makeAbsent l r n) := by
  have hdropped : requestFree { line := l, addr := r.addr } (s.dropStationReferral { line := l, addr := r.addr }) :=
    ⟨requestsKept_of_sublist List.filter_sublist h, fun x hx => by
      simpa using (List.mem_filter.1 hx).2⟩
  have hcleared := requestFree_setStation (s := s.dropStationReferral { line := l, addr := r.addr })
    (st := { line := l, addr := r.addr }) (r := { r with misses := n, state := .absent, openRequest := none, notice := none }) rfl
    (fun hpoll => absurd hpoll (not_pollsVerdict hfree _)) hdropped
  unfold State.makeAbsent
  refine requestsKept_settleIfClear l ?_
  split
  · exact requestsKept_of_sameLines ((jobClosed_sameLines _).abandonPassage _ _ (sameLines_refl _))
      (requestsKept_of_sameLines ⟨rfl, rfl⟩ hcleared.1)
  · exact requestsKept_of_sameLines ⟨rfl, rfl⟩ hcleared.1

theorem requestsKept_missStation {s : State} {l : LineNo} {r : StationRec}
    (hr : s.station? { line := l, addr := r.addr } = some r) (hfree : (s.line l).exchange = none) (h : requestsKept s) :
    requestsKept (s.missStation l r) := by
  unfold State.missStation
  split
  · exact requestsKept_setStation_same hr rfl rfl h
  · exact h
  · split
    · exact requestsKept_makeAbsent _ hfree h
    · exact requestsKept_setStation_same hr rfl rfl h

theorem requestsKept_endInMiss {s : State} (l : LineNo) (x : Exchange) (h : requestsKept s) :
    requestsKept (s.endInMiss l x) := by
  have hended := requestsKept_endExchange l h
  unfold State.endInMiss
  dsimp only
  split
  · split
    · rename_i r hr
      have haddr : r.addr = x.addr := State.station?_addr hr
      rw [← haddr] at hr
      exact requestsKept_missStation hr (exchange_line_endExchange s l) hended
    · exact hended
  · exact hended

theorem requestsKept_missOn {s : State} (l : LineNo) (h : requestsKept s) : requestsKept (s.missOn l) := by
  unfold State.missOn
  split
  · exact requestsKept_endInMiss l _ h
  · exact h

/-! ## Replies -/

/-- A good Reply keeps the open request, but for a Ready verdict that is now Offered. -/
theorem openRequest_afterReply (r : StationRec) (x : Exchange) :
    (r.afterReply x).openRequest = r.openRequest ∨
      ∃ q v, r.openRequest = some q ∧ q.state = .ready v ∧
        (r.afterReply x).openRequest = some { q with state := .offered v } := by
  unfold StationRec.afterReply
  dsimp only
  split
  · split <;> exact .inl rfl
  · exact .inl rfl
  · split
    · rename_i q hq
      split
      · rename_i v hv
        exact .inr ⟨q, v, hq, hv, rfl⟩
      · exact .inl rfl
    · exact .inl rfl
  · exact .inl rfl

theorem addr_afterReply (r : StationRec) (x : Exchange) : (r.afterReply x).addr = r.addr := by
  unfold StationRec.afterReply
  dsimp only
  (repeat' split) <;> rfl

/-- After a good Reply an open request is Deciding exactly where it was before. -/
theorem requestsKept_goodReply {s : State} {st : Station} {r : StationRec} (x : Exchange) (hr : s.station? st = some r)
    (hfree : (s.line st.line).exchange = none) (h : requestsKept s) : requestsKept (s.goodReply st.line r x) := by
  have haddr : (r.afterReply x).addr = st.addr := (addr_afterReply r x).trans (State.station?_addr hr)
  have hput : requestsKept (s.setStation st.line (r.afterReply x)) := by
    rcases openRequest_afterReply r x with hopen | ⟨q, v, hq, hready, -⟩
    · exact requestsKept_setStation_same hr haddr hopen h
    · refine (requestFree_setStation haddr (fun hpoll => absurd hpoll (not_pollsVerdict hfree _))
        (requestFree_of_not_deciding (fun q' hq' => ?_) h)).1
      rw [openIn_of_station? hr, hq] at hq'
      cases hq'
      rw [hready]
      nofun
  unfold State.goodReply
  dsimp only
  split
  · exact requestsKept_of_sameLines ⟨rfl, rfl⟩ hput
  · exact hput

/-- After a good Reply the station's record is the one that follows the Reply. -/
theorem station?_goodReply {s : State} {st : Station} {r : StationRec} (x : Exchange) (hr : s.station? st = some r) :
    (s.goodReply st.line r x).station? st = some (r.afterReply x) := by
  have haddr : (r.afterReply x).addr = st.addr := (addr_afterReply r x).trans (State.station?_addr hr)
  have hself := State.station?_setStation_self s st.line (r.afterReply x)
  rw [haddr] at hself
  unfold State.goodReply
  dsimp only
  split <;> exact hself

theorem exchange_goodReply (s : State) (l : LineNo) (r : StationRec) (x : Exchange) :
    ((s.goodReply l r x).line l).exchange = (s.line l).exchange := by
  have hput : ((s.setStation l (r.afterReply x)).line l).exchange = (s.line l).exchange := by
    rw [State.setStation, State.line_setLine_self]
  unfold State.goodReply
  dsimp only
  split <;> exact hput

/-- What is found when a good Reply has been taken: the record that follows it, the line free, and no Poll having
carried a verdict to a request still Deciding. -/
structure ReplyTaken (st : Station) (s : State) (r : StationRec) (x : Exchange) : Prop where
  kept : requestsKept s
  record : s.station? st = some r
  free : (s.line st.line).exchange = none
  decided : ∀ n v, x.content = .verdict n v → ∀ q, r.openRequest = some q → q.state ≠ .deciding

theorem requestsKept_takeReply {s : State} {st : Station} {allowed : StationRec → Bool}
    {inTest : State → StationRec → State} {good : State → StationRec → Exchange → State}
    (htest : ∀ t r, requestsKept t → t.station? st = some r → requestsKept (inTest t r))
    (hgood : ∀ t r x, ReplyTaken st t r x → requestsKept (good t r x)) (h : requestsKept s) :
    requestsKept (s.takeReply st allowed inTest good) := by
  have hended := requestsKept_endExchange st.line h
  unfold State.takeReply
  split
  · exact h
  · rename_i x hx
    split
    · exact requestsKept_endInMiss _ _ h
    · rename_i htaken
      split
      · exact requestsKept_endInMiss _ _ h
      · rename_i r hr
        have hr' := (station?_endExchange s st.line st).trans hr
        split
        · exact htest _ r hended hr'
        · split
          · refine hgood _ _ x ⟨requestsKept_goodReply x hr' (exchange_line_endExchange s _) hended,
              station?_goodReply x hr', (exchange_goodReply ..).trans (exchange_line_endExchange s _), ?_⟩
            intro n v hcontent q hq
            rw [not_or, Bool.not_eq_false] at htaken
            obtain ⟨q', hq', hdecided⟩ := h.2.2 st.line st.addr
              ⟨x, n, v, hx, htaken.1, hcontent, Classical.not_not.1 htaken.2⟩
            rw [openIn_of_station? hr] at hq'
            rcases openRequest_afterReply r x with hopen | ⟨q0, w, -, -, hopen⟩
            · rw [hopen, hq'] at hq
              cases hq
              exact hdecided
            · rw [hopen] at hq
              cases hq
              nofun
          · exact requestsKept_endInMiss _ _ h

theorem requestsKept_failEcho {s : State} {st : Station} {r : StationRec} (hr : s.station? st = some r)
    (h : requestsKept s) : requestsKept (failEcho st.line s r) := by
  have haddr := State.station?_addr hr
  exact requestsKept_setStation_same hr haddr rfl h

/-- A sensor word leaves what was found when the Reply was taken. -/
theorem replyTaken_takeLockWord {s : State} {st : Station} {r : StationRec} {x : Exchange} (w : Sensors)
    (h : ReplyTaken st s r x) : ReplyTaken st (s.takeLockWord st r.kind w) r x := by
  obtain ⟨hlines, hreferral⟩ := (jobClosed_sameLines s).takeLockWord st r.kind w (sameLines_refl s)
  obtain ⟨hkept, hrecord, hfree, hdecided⟩ := h
  refine ⟨requestsKept_of_sameLines ⟨hlines, hreferral⟩ hkept, ?_, ?_, hdecided⟩
  · unfold State.station? State.line at hrecord ⊢
    rwa [hlines]
  · unfold State.line at hfree ⊢
    rwa [hlines]

theorem requestsKept_takeIdle {s : State} (st : Station) (w : Sensors) (h : requestsKept s) :
    requestsKept (s.takeIdle st w) :=
  requestsKept_takeReply (fun _ _ ht hr => requestsKept_failEcho hr ht)
    (fun _ _ _ ht => (replyTaken_takeLockWord w ht).kept) h

/-- A Request is opened where no request is open, hence where no referral waits. -/
theorem requestsKept_openRequest {s : State} {st : Station} {r : StationRec} {x : Exchange} (n : Nat) (q : Request)
    (h : ReplyTaken st s r x) : requestsKept (s.openRequest st r n q) := by
  obtain ⟨hkept, hr, hfree, -⟩ := h
  have haddr := State.station?_addr hr
  unfold State.openRequest
  split
  · exact requestsKept_oweNotice _ _ hkept
  · rename_i hnone
    have hopened := requestFree_setStation (st := st)
      (r := { r with openRequest := some { number := n, request := q, state := .deciding } }) haddr
      (fun hpoll => absurd hpoll (not_pollsVerdict hfree _))
      (requestFree_of_not_deciding (fun q' hq' => by
        rw [openIn_of_station? hr, hnone] at hq'
        nomatch hq') hkept)
    refine requestsKept_takeRequest r.kind q ⟨hopened, ⟨{ number := n, request := q, state := .deciding }, ?_, rfl, rfl⟩⟩
    rw [State.setStation, State.line_setLine_self, openIn_put rfl, if_pos haddr.symm]

theorem requestsKept_takeRequestReply {s : State} (st : Station) (w : Sensors) (n : Nat) (q : Request)
    (h : requestsKept s) : requestsKept (s.takeRequestReply st w n q) :=
  requestsKept_takeReply (fun _ _ ht hr => requestsKept_oweNotice _ _ (requestsKept_failEcho hr ht))
    (fun _ _ _ ht => requestsKept_openRequest n q (replyTaken_takeLockWord w ht)) h

/-- An Acknowledge closes a request only that has a verdict. -/
theorem requestsKept_closeRequest {s : State} {st : Station} {r : StationRec} {x : Exchange} {n : Nat}
    (hcloses : closes r x n = true) (h : ReplyTaken st s r x) :
    requestsKept ((s.setStation st.line { r with openRequest := none }).modifyLine st.line Line.settleIfClear) := by
  obtain ⟨hkept, hr, hfree, hdecided⟩ := h
  have haddr := State.station?_addr hr
  unfold closes at hcloses
  split at hcloses
  · rename_i m v q hcontent hq
    have hfreed : requestFree st s := requestFree_of_not_deciding (fun q' hq' => by
      rw [openIn_of_station? hr] at hq'
      exact hdecided m v hcontent q' hq') hkept
    exact requestsKept_settleIfClear _ (requestFree_setStation (r := { r with openRequest := none }) haddr
      (fun hpoll => absurd hpoll (not_pollsVerdict hfree _)) hfreed).1
  · cases hcloses

theorem requestsKept_takeAcknowledge {s : State} (st : Station) (w : Sensors) (n : Nat) (h : requestsKept s) :
    requestsKept (s.takeAcknowledge st w n) := by
  refine requestsKept_takeReply (fun _ _ ht hr => requestsKept_failEcho hr ht) (fun t r x ht => ?_) h
  have hword := replyTaken_takeLockWord w ht
  dsimp only
  split
  · rename_i hcloses
    exact requestsKept_closeRequest hcloses hword
  · exact hword.kept

theorem requestsKept_send {s : State} (f : OutFrame) (h : requestsKept s) : requestsKept (s.send f) := by
  rw [State.send_eq]
  exact h

theorem requestsKept_takeThroughUp {s : State} (st : Station) (d : List Byte) (h : requestsKept s) :
    requestsKept (s.takeThroughUp st d) := by
  refine requestsKept_takeReply (fun _ _ ht hr => requestsKept_failEcho hr ht) (fun t r x ht => ?_) h
  split
  · exact requestsKept_send _ ht.kept
  · exact requestsKept_oweNotice _ _ ht.kept

theorem requestsKept_takeEcho {s : State} (st : Station) (d : List Byte) (h : requestsKept s) :
    requestsKept (s.takeEcho st d) := by
  refine requestsKept_takeReply (fun t r ht hr => ?_) (fun _ _ _ ht => ht.kept) h
  have haddr := State.station?_addr hr
  split
  · exact requestsKept_setStation_same hr haddr rfl ht
  · exact requestsKept_failEcho hr ht

end Sys2Proof.Proofs

/-! PROOF. Every row and the tick keep the referrals and the verdicts polled; with it every step keeps the capacities,
the tables, the passages, the referrals and the profile. -/

namespace Sys2Proof.Proofs

open Sys2Proof.Machine Sys2Proof.Claims

/-! ## Polls -/

/-- The content of a Poll is a verdict only of an open request that has one (R26). -/
theorem decided_of_pollContent {r : StationRec} {n : Nat} {v : Verdict} (h : r.pollContent = .verdict n v) :
    ∃ q, r.openRequest = some q ∧ q.state ≠ .deciding := by
  unfold StationRec.pollContent at h
  split at h
  iterate 3 exact nomatch h
  · rename_i q _ _ hq
    refine ⟨q, hq, fun hdeciding => ?_⟩
    rw [hdeciding] at h
    exact nomatch h
  iterate 2 exact nomatch h

theorem Line.stations_beginRound (x : Line) : x.beginRound.stations = x.stations := by
  unfold Line.beginRound
  (repeat' split) <;> rfl

theorem Line.stations_refreshRound (x : Line) : x.refreshRound.stations = x.stations := by
  unfold Line.refreshRound
  dsimp only
  split
  · exact Line.stations_beginRound x
  · rfl

theorem Line.stations_sendPoll (x : Line) : x.sendPoll.stations = x.stations := by
  unfold Line.sendPoll
  split
  · split
    · split
      · exact Line.stations_refreshRound x
      · rfl
    · rfl
  · rfl

/-- The exchange of a line that may send a Poll: that Poll to an enrolled station, or the exchange it has. -/
theorem Line.exchange_sendPoll (x : Line) :
    x.sendPoll.exchange = x.exchange ∨ ∃ a r, lookup StationRec.addr a x.stations = some r ∧
      x.sendPoll.exchange = some { addr := a, content := r.pollContent, left := x.settings.replyTimeout, taken := true,
                                   noticeLive := true } := by
  unfold Line.sendPoll
  split
  · split
    · split
      · rename_i r hr
        exact .inr ⟨_, r, hr, rfl⟩
      · exact .inl rfl
    · exact .inl rfl
  · exact .inl rfl

theorem requestsKept_sendPoll {s : State} (l : LineNo) (h : requestsKept s) :
    requestsKept (s.modifyLine l Line.sendPoll) := by
  have hopen := openIn_of_stations (Line.stations_sendPoll (s.line l))
  refine requestsKept_setLine (fun x _ _ hold => ?_) (fun addr ⟨e, n, v, he, htaken, hcontent, haddr⟩ => ?_) h
  · rwa [openRequestDeciding, hopen]
  · rw [openRequestDecided, hopen]
    rcases Line.exchange_sendPoll (s.line l) with hsame | ⟨a, r, hr, hsent⟩
    · exact h.2.2 l addr ⟨e, n, v, hsame.symm.trans he, htaken, hcontent, haddr⟩
    · obtain rfl := Option.some.inj (hsent.symm.trans he)
      obtain ⟨q, hq, hdecided⟩ := decided_of_pollContent hcontent
      exact ⟨q, (openIn_eq_some_iff ..).2 ⟨r, haddr ▸ hr, hq⟩, hdecided⟩

/-! ## Enrolment, settings, test, pass-through -/

theorem openIn_eq_none_of_lookup {x : Line} {addr : Nat} (h : lookup StationRec.addr addr x.stations = none) :
    openIn x addr = none := by
  rw [openIn, h]
  rfl

theorem requestsKept_enrollStation {s : State} (l a k : Nat) (d : Option Nat) (h : requestsKept s) :
    requestsKept (enrollStation s l a k d).1 := by
  unfold enrollStation
  split
  · rename_i st kind _ _
    split
    · exact h
    · rename_i hempty
      split
      · exact h
      · rw [Bool.not_eq_true, Option.isSome_eq_false_iff, Option.isNone_iff_eq_none] at hempty
        exact requestsKept_setLine_same (openIn_put_same rfl (openIn_eq_none_of_lookup hempty).symm) (fun _ h => h) h
  · exact h

/-- The open requests of a line that loses a station without one. -/
theorem openIn_erase {x y : Line} {addr : Nat} (hy : y.stations = erase StationRec.addr addr x.stations)
    (hnone : openIn x addr = none) : openIn y = openIn x := by
  funext a
  by_cases ha : a = addr
  · rw [ha, hnone]
    refine openIn_eq_none_of_lookup ?_
    rw [hy]
    refine List.find?_eq_none.2 fun r hr => ?_
    simpa using (List.mem_filter.1 hr).2
  · rw [openIn, openIn, hy, lookup_erase_other _ ha]

/-- An exchange that is forgotten polls no verdict to the address, and to others as before. -/
theorem pollsVerdict_remove {x : Line} {addr a : Nat} (h : pollsVerdict (x.remove addr) a) : pollsVerdict x a := by
  obtain ⟨e, n, v, he, htaken, hcontent, ha⟩ := h
  rw [Line.remove, Line.exchange_settleRound] at he
  obtain ⟨e', he', rfl⟩ := Option.map_eq_some_iff.1 he
  unfold Exchange.forget at htaken hcontent ha
  split at htaken
  · exact nomatch htaken
  · rename_i hne
    rw [if_neg hne] at hcontent ha
    exact ⟨e', n, v, he', htaken, hcontent, ha⟩

theorem requestsKept_removeStation {s : State} (l a : Nat) (h : requestsKept s) :
    requestsKept (removeStation s l a).1 := by
  unfold removeStation
  split
  · exact h
  · rename_i st _
    split
    · exact h
    · rename_i r hr
      split; · exact h
      rename_i hopen
      split; · exact h
      split; · exact h
      have hremoved : requestsKept (s.modifyLine st.line fun x => x.remove st.addr) := by
        refine requestsKept_setLine_same (openIn_erase (Line.stations_settleRound _) ?_)
          (fun _ hpoll => pollsVerdict_remove hpoll) h
        rw [openIn_of_station? hr]
        simpa using hopen
      dsimp only
      split
      · exact hremoved
      · exact hremoved

theorem requestsKept_setLineSettings {s : State} (l a b c : Nat) (h : requestsKept s) :
    requestsKept (setLineSettings s l a b c).1 := by
  unfold setLineSettings
  split
  · split
    · exact h
    · exact h
    · exact requestsKept_setLine_same rfl (fun _ h => h) h
    · split
      · exact requestsKept_setLine_same rfl (fun _ h => h) h
      · exact requestsKept_setLine_free rfl rfl h
  · exact h

theorem requestsKept_startLineTest {s : State} (l : Nat) (h : requestsKept s) :
    requestsKept (startLineTest s l).1 := by
  unfold startLineTest
  split; · exact h
  split; · exact h
  · exact h
  · split
    · exact h
    · exact requestsKept_setLine_free (openIn_map (f := StationRec.enterTest) (fun _ => rfl) (fun _ => rfl) rfl) rfl h

theorem requestsKept_endLineTest {s : State} (l : Nat) (h : requestsKept s) : requestsKept (endLineTest s l).1 := by
  unfold endLineTest
  split; · exact h
  split
  · exact requestsKept_setLine_free (openIn_map (f := StationRec.leaveTest) (fun _ => rfl) (fun _ => rfl) rfl) rfl h
  · exact h

theorem requestsKept_queueThrough {s : State} (l a : Nat) (d : List Byte) (h : requestsKept s) :
    requestsKept (queueThrough s l a d).1 := by
  unfold queueThrough
  split; · exact h
  split; · exact h
  rename_i st _ _ r hr
  have haddr := State.station?_addr hr
  split; · exact h
  split; · exact h
  split; · exact h
  exact requestsKept_setStation_same hr haddr rfl h

/-! ## The trunk, the clock, the restarts -/

theorem requestsKept_oweAllLost (fs : List OutFrame) {s : State} (h : requestsKept s) :
    requestsKept (oweAllLost fs s) := by
  induction fs generalizing s with
  | nil => exact h
  | cons f fs ih =>
    refine ih ?_
    unfold State.oweLostThrough
    split
    · split
      · split
        · exact requestsKept_oweNotice _ _ h
        · exact h
      · exact h
    · exact h

theorem requestsKept_loseTrunk {s : State} (h : requestsKept s) : requestsKept s.loseTrunk :=
  requestsKept_fallbackAll _ rfl (requestsKept_oweAllLost _ (s := State.report _ _) h)

/-- The comparison of the clock touches neither the lines nor the Referral List. -/
theorem sameLines_compareClock (s : State) (b : Bool) : sameLines s (s.compareClock b) := by
  have hcall : ∀ t : State, sameLines t t.enterLastCall := fun t =>
    (jobClosed_sameLines t).enterLastCall (sameLines_refl t)
  unfold State.compareClock
  split
  · dsimp only
    split
    · exact hcall _
    · exact hcall _
  · split
    · exact ⟨rfl, rfl⟩
    · split
      · exact hcall s
      · exact sameLines_refl s

theorem sameLines_compareRunning (s : State) : sameLines s s.compareRunning := by
  unfold State.compareRunning
  split
  · exact sameLines_compareClock _ _
  · exact sameLines_compareClock _ _

theorem sameLines_compareAtRestart (s : State) : sameLines s s.compareAtRestart := by
  unfold State.compareAtRestart
  split
  · exact sameLines_compareClock _ _
  · exact sameLines_compareClock _ _

/-- Where no referral is left and no exchange is on a line, the requests are kept. -/
theorem requestsKept_of_nil {s : State} (hlist : s.referral.list = []) (hfree : ∀ l, (s.line l).exchange = none) :
    requestsKept s := by
  refine ⟨⟨?_, ?_, ?_, ?_⟩, ?_, fun l addr hpoll => absurd hpoll (not_pollsVerdict (hfree l) addr)⟩ <;> rw [hlist]
  · exact Nat.zero_le _
  · exact fun r hr => nomatch hr
  · exact List.nodup_nil
  · exact List.nodup_nil
  · exact fun r hr => nomatch hr

theorem line_vmap (s : State) (f : Line → Line) (l : LineNo) : (vmap s.lines f)[l] = f (s.line l) := by
  simp [vmap, State.line]

theorem requestsKept_discardWork (s : State) (c : RestartCause) : requestsKept (s.discardWork c) := by
  refine requestsKept_of_nil rfl fun l => ?_
  show ((vmap s.lines Line.afterWarm)[l]).exchange = none
  rw [line_vmap]
  rfl

theorem sameLines_lapseAll (hs : List Hold) (s : State) : sameLines s (lapseAll hs s) := by
  obtain ⟨c, h⟩ := lapseAll_eq hs s
  rw [h]
  exact ⟨rfl, rfl⟩

theorem sameLines_takeLevels (s : State) (levels : Levels) : sameLines s (s.takeLevels levels) := by
  have hjob := jobClosed_sameLines s
  exact hjob.alarmIfHeld _ (hjob.alarmIfHeld _ (hjob.alarmIfHeld _ (hjob.alarmIfHeld _ ⟨rfl, rfl⟩)))

theorem sameLines_report (s : State) (r : EventRecord) : sameLines s (s.report r) := ⟨rfl, rfl⟩

theorem sameLines_setPassages (s : State) (ps : List Passage) : sameLines s (s.setPassages ps) := ⟨rfl, rfl⟩

theorem requestsKept_warmRestart (s : State) (c : RestartCause) (levels : Levels) :
    requestsKept (s.warmRestart c levels) := by
  unfold State.warmRestart
  dsimp only
  exact requestsKept_of_sameLines (sameLines_report _ _) <|
    requestsKept_of_sameLines (sameLines_takeLevels _ levels) <|
    requestsKept_of_sameLines (sameLines_compareAtRestart _) <|
    requestsKept_of_sameLines (sameLines_setPassages _ []) <|
    requestsKept_of_sameLines (sameLines_lapseAll _ _) (requestsKept_discardWork s c)

theorem requestsKept_coldStart (s : State) (c : RestartCause) (levels : Levels) :
    requestsKept (s.coldStart c levels) := by
  refine requestsKept_of_nil rfl fun l => ?_
  show ((Vector.replicate 8 Line.cold)[l]).exchange = none
  simp [Line.cold]

/-! ## Frames and commands -/

theorem requestsKept_receive {s : State} {f : State → State} (hf : ∀ s, requestsKept s → requestsKept (f s))
    (h : requestsKept s) : requestsKept (s.receive f) := by
  unfold State.receive
  split
  · refine hf _ ?_
    split
    · exact h
    · exact requestsKept_of_sameLines ⟨rfl, rfl⟩ h
  · exact h

theorem requestsKept_engineFrame {s : State} {c k t : Nat} {f : State → State}
    (hf : ∀ s, requestsKept s → requestsKept (f s)) (h : requestsKept s) : requestsKept (s.engineFrame c k t f) := by
  refine requestsKept_receive (fun s hs => ?_) h
  split
  · exact hf s hs
  · exact requestsKept_send _ hs

theorem requestsKept_command {s : State} {k t : Nat} {f : State → State × ExecResult × StatusData}
    (hf : ∀ s, requestsKept s → requestsKept (f s).1) (h : requestsKept s) : requestsKept (s.command k t f) :=
  requestsKept_engineFrame (fun s hs => requestsKept_send _ (hf s hs)) h

/-- A command that touches neither the lines nor the Referral List. -/
theorem requestsKept_command_same {s : State} {k t : Nat} {f : State → State × ExecResult × StatusData}
    (hf : ∀ s, sameLines s (f s).1) (h : requestsKept s) : requestsKept (s.command k t f) :=
  requestsKept_command (fun s hs => requestsKept_of_sameLines (hf s) hs) h

theorem requestsKept_whenOn {s : State} {f : State → State} (hf : requestsKept (f s)) (h : requestsKept s) :
    requestsKept (s.whenOn f) := by
  unfold State.whenOn
  split
  · exact hf
  · exact h

theorem requestsKept_finishCommand {s : State} (r : ExecResult) (h : requestsKept s) :
    requestsKept (s.finishCommand r) := by
  unfold State.finishCommand
  split
  · exact requestsKept_send _ h
  · exact h

theorem requestsKept_finishData {s : State} (x : Loading) (h : requestsKept s) : requestsKept (s.finishData x) :=
  requestsKept_send _ (requestsKept_of_sameLines ⟨rfl, rfl⟩ h)

theorem requestsKept_settleNext {s : State} (h : requestsKept s) : requestsKept s.settleNext := by
  unfold State.settleNext
  split
  · rename_i x _
    split
    · rename_i e es _
      have hsettled := requestsKept_of_sameLines ((jobClosed_sameLines s).settleEntry x.mode e (sameLines_refl s)) h
      dsimp only
      split
      · exact requestsKept_finishData _ hsettled
      · exact hsettled
    · exact requestsKept_finishData _ h
  · exact h

theorem requestsKept_takeData {s : State} (t : Nat) (b : List Byte) (h : requestsKept s) :
    requestsKept (s.takeData t b) := by
  unfold State.takeData
  split
  · exact requestsKept_send _ h
  · split
    · exact requestsKept_send _ h
    · exact requestsKept_settleNext h

/-! ## The commands that touch neither the lines nor the Referral List -/

theorem sameLines_setClock (s : State) (t : DateTime) : sameLines s (setClock s t).1 := by
  unfold setClock
  split
  · exact sameLines_compareClock _ _
  · exact sameLines_refl s

theorem sameLines_setProfile (s : State) (o : ProfileOffer) : sameLines s (setProfile s o).1 := by
  unfold setProfile
  split <;> exact ⟨rfl, rfl⟩

theorem sameLines_setVesselCodes (s : State) (a b c d : Nat) : sameLines s (setVesselCodes s a b c d).1 := by
  unfold setVesselCodes
  split <;> exact ⟨rfl, rfl⟩

theorem sameLines_openLoad (s : State) (t m : Nat) : sameLines s (openLoad s t m).1 := by
  unfold openLoad
  (repeat' split) <;> exact ⟨rfl, rfl⟩

theorem sameLines_closeLoad (s : State) : sameLines s (closeLoad s).1 := by
  unfold closeLoad
  split <;> exact ⟨rfl, rfl⟩

theorem sameLines_setProtection (s : State) (a b c : Nat) (r : Option (Nat × Nat)) :
    sameLines s (setProtection s a b c r).1 := by
  unfold setProtection
  (repeat' split) <;> exact ⟨rfl, rfl⟩

theorem sameLines_releaseProtection (s : State) : sameLines s (releaseProtection s).1 := by
  unfold releaseProtection
  split <;> exact ⟨rfl, rfl⟩

theorem sameLines_openPortCall (s : State) (t : DateTime) : sameLines s (openPortCall s t).1 := by
  unfold openPortCall
  (repeat' split) <;> exact ⟨rfl, rfl⟩

theorem sameLines_closePortCall (s : State) : sameLines s (closePortCall s).1 := by
  unfold closePortCall
  (repeat' split) <;> exact ⟨rfl, rfl⟩

theorem sameLines_startMuster (s : State) (o : Nat) : sameLines s (startMuster s o).1 := by
  unfold startMuster
  split
  · exact sameLines_refl s
  · rename_i m hm
    split
    · rename_i hoff
      exact (jobClosed_sameLines s).enterMuster m _ hoff (readMusterOption_ne hm) (sameLines_refl s)
    · split <;> exact ⟨rfl, rfl⟩
    · exact sameLines_refl s

theorem sameLines_finishMuster (s : State) : sameLines s (finishMuster s).1 := by
  unfold finishMuster
  (repeat' split) <;> exact ⟨rfl, rfl⟩

theorem sameLines_configureAlarm (s : State) (i m : Nat) : sameLines s (configureAlarm s i m).1 := by
  unfold configureAlarm
  split
  · exact (jobClosed_sameLines s).alarmIfHeld _ ⟨rfl, rfl⟩
  · exact sameLines_refl s

theorem sameLines_readEvents (s : State) (n : Nat) : sameLines s (readEvents s n).1 := by
  unfold readEvents
  split <;> exact ⟨rfl, rfl⟩

theorem sameLines_setEventKinds (s : State) (vs : List Nat) : sameLines s (setEventKinds s vs).1 := by
  unfold setEventKinds
  split <;> exact ⟨rfl, rfl⟩

theorem sameLines_releaseJournal (s : State) (n : Nat) : sameLines s (releaseJournal s n).1 := by
  unfold releaseJournal
  (repeat' split) <;> exact ⟨rfl, rfl⟩

/-! ## Every row -/

/-- Every command answers a state in which the requests are kept. -/
theorem exec_requestsKept (c : Instr) (s : State) (h : requestsKept s) : ∃ t, exec c s = .next t ∧ requestsKept t := by
  cases c
  case statusRead => exact ⟨_, rfl, requestsKept_command_same (fun s => sameLines_refl s) h⟩
  case clockSet => exact ⟨_, rfl, requestsKept_command_same (fun s => sameLines_setClock s _) h⟩
  case profileSet => exact ⟨_, rfl, requestsKept_command_same (fun s => sameLines_setProfile s _) h⟩
  case profileRead => exact ⟨_, rfl, requestsKept_command_same (fun s => sameLines_refl s) h⟩
  case lineSettings =>
    refine ⟨_, rfl, requestsKept_engineFrame (fun s h => ?_) h⟩
    dsimp only
    split
    · exact requestsKept_send _ (requestsKept_setLineSettings _ _ _ _ h)
    · exact requestsKept_of_sameLines ⟨rfl, rfl⟩ (requestsKept_setLineSettings _ _ _ _ h)
  case lineTestStart => exact ⟨_, rfl, requestsKept_command (fun _ h => requestsKept_startLineTest _ h) h⟩
  case lineTestEnd => exact ⟨_, rfl, requestsKept_command (fun _ h => requestsKept_endLineTest _ h) h⟩
  case stationEnroll => exact ⟨_, rfl, requestsKept_command (fun _ h => requestsKept_enrollStation _ _ _ _ h) h⟩
  case stationRemove => exact ⟨_, rfl, requestsKept_command (fun _ h => requestsKept_removeStation _ _ h) h⟩
  case vesselCodesSet => exact ⟨_, rfl, requestsKept_command_same (fun s => sameLines_setVesselCodes s _ _ _ _) h⟩
  case loadOpen => exact ⟨_, rfl, requestsKept_command_same (fun s => sameLines_openLoad s _ _) h⟩
  case loadClose => exact ⟨_, rfl, requestsKept_command_same (fun s => sameLines_closeLoad s) h⟩
  case entryRead => exact ⟨_, rfl, requestsKept_command_same (fun s => sameLines_refl s) h⟩
  case accountWrite =>
    exact ⟨_, rfl, requestsKept_command_same
      (fun s => (jobClosed_sameLines s).writeAccount _ _ _ _ (sameLines_refl s)) h⟩
  case cabinWrite =>
    exact ⟨_, rfl, requestsKept_command_same (fun s => (jobClosed_sameLines s).writeCabin _ _ _ _ (sameLines_refl s)) h⟩
  case presenceSet =>
    exact ⟨_, rfl, requestsKept_command_same
      (fun s => (jobClosed_sameLines s).setCardPresence _ _ _ (sameLines_refl s)) h⟩
  case portCallOpen => exact ⟨_, rfl, requestsKept_command_same (fun s => sameLines_openPortCall s _) h⟩
  case portCallClose => exact ⟨_, rfl, requestsKept_command_same (fun s => sameLines_closePortCall s) h⟩
  case journalRead => exact ⟨_, rfl, requestsKept_command_same (fun s => sameLines_refl s) h⟩
  case journalRelease => exact ⟨_, rfl, requestsKept_command_same (fun s => sameLines_releaseJournal s _) h⟩
  case counterRead => exact ⟨_, rfl, requestsKept_command_same (fun s => sameLines_refl s) h⟩
  case ashoreRead => exact ⟨_, rfl, requestsKept_command_same (fun s => sameLines_refl s) h⟩
  case musterStart => exact ⟨_, rfl, requestsKept_command_same (fun s => sameLines_startMuster s _) h⟩
  case musterEnd => exact ⟨_, rfl, requestsKept_command_same (fun s => sameLines_finishMuster s) h⟩
  case musterRollRead => exact ⟨_, rfl, requestsKept_command_same (fun s => sameLines_refl s) h⟩
  case unaccountedRead => exact ⟨_, rfl, requestsKept_command_same (fun s => sameLines_refl s) h⟩
  case alarmConfig => exact ⟨_, rfl, requestsKept_command_same (fun s => sameLines_configureAlarm s _ _) h⟩
  case alarmStatus => exact ⟨_, rfl, requestsKept_command_same (fun s => sameLines_refl s) h⟩
  case eventRead => exact ⟨_, rfl, requestsKept_command_same (fun s => sameLines_readEvents s _) h⟩
  case eventKinds => exact ⟨_, rfl, requestsKept_command_same (fun s => sameLines_setEventKinds s _) h⟩
  case protectionSet => exact ⟨_, rfl, requestsKept_command_same (fun s => sameLines_setProtection s _ _ _ _) h⟩
  case protectionGet => exact ⟨_, rfl, requestsKept_command_same (fun s => sameLines_refl s) h⟩
  case protectionRelease => exact ⟨_, rfl, requestsKept_command_same (fun s => sameLines_releaseProtection s) h⟩
  case restart =>
    refine ⟨_, rfl, requestsKept_engineFrame (fun s h => ?_) h⟩
    split
    · exact requestsKept_send _ h
    · exact requestsKept_send _ (requestsKept_of_sameLines ⟨rfl, rfl⟩ h)
  case dataFrame => exact ⟨_, rfl, requestsKept_engineFrame (fun _ h => requestsKept_takeData _ _ h) h⟩
  case answerFrame =>
    exact ⟨_, rfl, requestsKept_receive (fun _ h => requestsKept_send _ (requestsKept_takeAnswer _ _ _ h)) h⟩
  case throughDown =>
    exact ⟨_, rfl, requestsKept_receive (fun _ h => requestsKept_send _ (requestsKept_queueThrough _ _ _ h)) h⟩
  case frameCheckFailed =>
    refine ⟨_, rfl, requestsKept_whenOn ?_ h⟩
    split
    · exact requestsKept_send _ h
    · exact h
  case unknownKind => exact ⟨_, rfl, requestsKept_receive (fun _ h => requestsKept_send _ h) h⟩
  case malformed => exact ⟨_, rfl, requestsKept_receive (fun _ h => requestsKept_send _ h) h⟩
  case outboundClassDiscarded => exact ⟨_, rfl, requestsKept_receive (fun _ h => h) h⟩
  case frameGapTimeout =>
    refine ⟨_, rfl, requestsKept_whenOn ?_ h⟩
    split
    · exact requestsKept_of_sameLines ⟨rfl, rfl⟩ h
    · exact h
  case carrierLost =>
    have hlost : requestsKept (s.setTrunk { s.trunk with carrier := false }) :=
      requestsKept_of_sameLines ⟨rfl, rfl⟩ h
    refine ⟨_, rfl, requestsKept_whenOn ?_ hlost⟩
    split
    · exact requestsKept_loseTrunk hlost
    · exact requestsKept_of_sameLines ⟨rfl, rfl⟩ hlost
  case carrierRegained => exact ⟨_, rfl, requestsKept_of_sameLines ⟨rfl, rfl⟩ h⟩
  case restartBegin =>
    refine ⟨_, rfl, requestsKept_whenOn ?_ h⟩
    split
    · exact requestsKept_coldStart _ _ _
    · exact requestsKept_warmRestart _ _ _
    · exact h
  case mainPowerLost => exact ⟨_, rfl, requestsKept_whenOn (requestsKept_of_sameLines ⟨rfl, rfl⟩ h) h⟩
  case mainPowerApplied =>
    refine ⟨_, rfl, ?_⟩
    split; · exact h
    split; · exact requestsKept_coldStart _ _ _
    split; · exact requestsKept_coldStart _ _ _
    exact requestsKept_warmRestart _ _ _
  case retentionSupplyLow =>
    refine ⟨_, rfl, ?_⟩
    split
    · exact h
    · exact requestsKept_of_sameLines ⟨rfl, rfl⟩ h
  case poll => exact ⟨_, rfl, requestsKept_whenOn (requestsKept_sendPoll _ h) h⟩
  case replyTimeout =>
    refine ⟨_, rfl, requestsKept_whenOn ?_ h⟩
    split
    · exact requestsKept_missOn _ h
    · exact h
  case badReply => exact ⟨_, rfl, requestsKept_whenOn (requestsKept_missOn _ h) h⟩
  case idle => exact ⟨_, rfl, requestsKept_whenOn (requestsKept_takeIdle _ _ h) h⟩
  case request => exact ⟨_, rfl, requestsKept_whenOn (requestsKept_takeRequestReply _ _ _ _ h) h⟩
  case acknowledge => exact ⟨_, rfl, requestsKept_whenOn (requestsKept_takeAcknowledge _ _ _ h) h⟩
  case throughUp => exact ⟨_, rfl, requestsKept_whenOn (requestsKept_takeThroughUp _ _ h) h⟩
  case echo => exact ⟨_, rfl, requestsKept_whenOn (requestsKept_takeEcho _ _ h) h⟩
  case settleIntervalEnd =>
    refine ⟨_, rfl, requestsKept_whenOn ?_ h⟩
    split
    · exact requestsKept_finishCommand _ (requestsKept_setLine_same rfl (fun _ h => h) h)
    · exact h
  case lineSettingsWaitTimeout =>
    refine ⟨_, rfl, requestsKept_whenOn ?_ h⟩
    split
    · exact requestsKept_finishCommand _ (requestsKept_setLine_same rfl (fun _ h => h) h)
    · exact h
  case windowEnd =>
    refine ⟨_, rfl, requestsKept_whenOn ?_ h⟩
    (repeat' split) <;> exact requestsKept_of_sameLines ⟨rfl, rfl⟩ h
  case overrideEnd =>
    refine ⟨_, rfl, requestsKept_whenOn ?_ h⟩
    (repeat' split) <;> exact requestsKept_of_sameLines ⟨rfl, rfl⟩ h
  case holdLapse =>
    refine ⟨_, rfl, requestsKept_whenOn ?_ h⟩
    (repeat' split) <;> exact requestsKept_of_sameLines ⟨rfl, rfl⟩ h
  case passageConfirmTimeout =>
    refine ⟨_, rfl, requestsKept_whenOn ?_ h⟩
    split
    · split
      · exact requestsKept_of_sameLines ((jobClosed_sameLines s).abandonPassage _ _ (sameLines_refl s)) h
      · exact h
    · exact h
  case referralTimeout =>
    refine ⟨_, rfl, requestsKept_whenOn ?_ h⟩
    split
    · rename_i r hr
      split
      · exact requestsKept_timeoutReferral (referral?_some hr).1 h
      · exact h
    · exact h
  case loadGapExpiry =>
    refine ⟨_, rfl, requestsKept_whenOn ?_ h⟩
    split <;> exact requestsKept_of_sameLines ⟨rfl, rfl⟩ h
  case dayBoundary =>
    refine ⟨_, rfl, requestsKept_whenOn ?_ h⟩
    split <;> exact requestsKept_of_sameLines ⟨rfl, rfl⟩ h
  case allAboardDue =>
    refine ⟨_, rfl, requestsKept_whenOn ?_ h⟩
    split
    · exact requestsKept_of_sameLines ((jobClosed_sameLines s).enterLastCall (sameLines_refl s)) h
    · exact h
  case alarmInput =>
    exact ⟨_, rfl, requestsKept_whenOn
      (requestsKept_of_sameLines ((jobClosed_sameLines s).alarmChange _ _ (sameLines_refl s)) h) h⟩
  case lengthNotReadable =>
    refine ⟨_, rfl, requestsKept_whenOn ?_ h⟩
    split <;> exact requestsKept_of_sameLines ⟨rfl, rfl⟩ h

/-! ## The tick and the step -/

theorem requestsKept_countTime {s : State} (h : requestsKept s) : requestsKept s.countTime := by
  obtain ⟨⟨hlen, htags, hapart, hstations⟩, hdeciding, hdecided⟩ := h
  have hline : ∀ l, s.countTime.line l = (s.line l).tick := fun l => line_vmap s Line.tick l
  have hopen : ∀ l, openIn (s.countTime.line l) = openIn (s.line l) := fun l => by rw [hline]; rfl
  have hlist : s.countTime.referral.list = s.referral.list.map Referral.tick := rfl
  refine ⟨⟨?_, ?_, ?_, ?_⟩, ?_, ?_⟩
  · rwa [hlist, List.length_map]
  · intro r hr
    obtain ⟨x, hx, rfl⟩ := List.mem_map.1 hr
    exact htags x hx
  · rwa [hlist, List.map_map]
  · rwa [hlist, List.map_map]
  · intro r hr
    obtain ⟨x, hx, rfl⟩ := List.mem_map.1 hr
    rw [openRequestDeciding, hopen]
    exact hdeciding x hx
  · rintro l addr ⟨e, n, v, he, htaken, hcontent, haddr⟩
    rw [openRequestDecided, hopen]
    rw [hline] at he
    obtain ⟨e', he', rfl⟩ := Option.map_eq_some_iff.1 he
    exact hdecided l addr ⟨e', n, v, he', htaken, hcontent, haddr⟩

theorem requestsKept_tick {s : State} (h : requestsKept s) : requestsKept s.tick := by
  unfold State.tick
  split
  · have hcompared := requestsKept_of_sameLines (sameLines_compareRunning _) (requestsKept_countTime h)
    exact requestsKept_of_sameLines ⟨rfl, rfl⟩ (requestsKept_settleNext hcompared)
  · exact requestsKept_of_sameLines ⟨rfl, rfl⟩ h

theorem step_requestsKept (s t : State) (hs : step s = .next t) (h : requestsKept s) : requestsKept t := by
  unfold step at hs
  split at hs
  · cases hs
    exact requestsKept_tick h
  · rename_i c rest _
    obtain ⟨u, hu, hkept⟩ := exec_requestsKept c { s with pending := rest } (requestsKept_of_sameLines ⟨rfl, rfl⟩ h)
    rw [hu] at hs
    cases hs
    exact hkept

/-- Settles O30: every part is closed under the primitive changes of the commands, but for the referrals with the
verdicts polled, which are kept row by row, since a line may not change in every way. -/
theorem everyStepKeepsTablesAndCapacities : Obligations.EveryStepKeepsTablesAndCapacities := by
  refine ⟨fun s t hs => ⟨fun h => ?_, fun h => ?_, fun h => ?_⟩,
    fun s t hs => ⟨fun h => ?_, fun h => ?_, fun h => ?_, fun h => ?_, fun h => ?_, fun h => ?_⟩⟩
  · exact step_closed execClosed_eventsKept (fun _ h => h) (fun h => h) s t h hs
  · refine step_closed execClosed_slotsKept (fun _ h => h) (fun {s} h => ?_) s t h hs
    rwa [State.slotsKept, length_holds_countTime]
  · refine step_closed execClosed_journalRun (fun _ h => h) (fun {s} h => ?_) s t h hs
    rwa [State.journalRun, length_holds_countTime]
  · exact step_closed execClosed_cardTableKept (fun _ h => h) (fun h => h) s t h hs
  · exact step_closed execClosed_accountTableKept (fun _ h => h) (fun h => h) s t h hs
  · exact step_closed execClosed_cabinTableKept (fun _ h => h) (fun h => h) s t h hs
  · exact step_closed execClosed_passagesKept (fun _ h => h) (fun h => passagesKept_countTime h) s t h hs
  · exact (requestsKept_iff t).1 (step_requestsKept s t hs ((requestsKept_iff s).2 h))
  · exact step_closed execClosed_profile (fun _ h => h) (fun h => h) s t h hs

end Sys2Proof.Proofs

/-! PROOF. The queue of commands, frames on the trunk taken and refused, STATUS_READ and RESTART, and the state after
reset. -/

namespace Sys2Proof.Proofs

open Sys2Proof.Machine Sys2Proof.Claims

/-! ## The queue of commands (log 33) -/

/-- Settles O1. -/
theorem stepRunsTheFrontCommand : Obligations.StepRunsTheFrontCommand := fun _ _ _ => rfl

/-- No primitive change touches the queue of commands. -/
theorem execClosed_pending (q : List Instr) : ExecClosed (fun t => t.pending = q) where
  cold _ _ h := h

/-- Settles O2: no primitive change of a command touches the queue. -/
theorem everyCommandCompletes : Obligations.EveryCommandCompletes := fun c s =>
  exec_closed (execClosed_pending s.pending) c s rfl

/-! ## Frames taken (R153, R176, R180) -/

/-- A Command or Data frame that finds the Command Engine Executing is answered BUSY (R180). -/
theorem engineFrame_of_executing {s : State} (hs : receives s) (hbusy : s.engine.state ≠ .idle) (cls kind tag : Nat)
    (f : State → State) : s.engineFrame cls kind tag f = withStatus (up s) cls kind tag .busy := by
  have hengine : (up s).engine.state ≠ .idle := by rwa [engine_up]
  rw [State.engineFrame, receive_of_receives hs]
  split
  · rename_i hidle
    exact absurd hidle hengine
  · exact answer_of_up (trunk_up_up s) ..

/-- Every Command and Data frame is handed to the Command Engine with its class, kind and tag. -/
theorem exec_of_engineFrame {c : Instr} {cls kind tag : Nat} (hframe : engineFrameOf c = some (cls, kind, tag))
    (s : State) : ∃ f, exec c s = .next (s.engineFrame cls kind tag f) := by
  cases c <;> cases hframe <;> exact ⟨_, rfl⟩

/-- Settles O3: a Command or Data frame is the Command Engine's to take. -/
theorem executingEngineAnswersBusy : Obligations.ExecutingEngineAnswersBusy := by
  intro c s cls kind tag hs hbusy hframe
  obtain ⟨f, hf⟩ := exec_of_engineFrame hframe s
  rw [hf, engineFrame_of_executing hs hbusy]

/-- A frame with a correct check word does what it does to a part that receives it. -/
theorem exec_of_goodFrame {c : Instr} (hgood : isGoodFrame c = true) (s : State) :
    ∃ f, exec c s = .next (s.receive f) := by
  cases hframe : engineFrameOf c with
  | some frame =>
    obtain ⟨f, hf⟩ := exec_of_engineFrame hframe s
    exact ⟨_, hf⟩
  | none => cases c <;> cases hframe <;> cases hgood <;> exact ⟨_, rfl⟩

/-- Every other row, but for the power rows and the carrier's, does what it does while main power is on. -/
theorem exec_of_otherRow {c : Instr} (hframe : isGoodFrame c = false) (hoff : actsWhileOff c = false) (s : State) :
    ∃ f, exec c s = .next (s.whenOn f) := by
  cases c <;> cases hframe <;> cases hoff <;> exact ⟨_, rfl⟩

theorem receive_of_not_receives {s : State} (hs : ¬receives s) (f : State → State) : s.receive f = s := if_neg hs

theorem whenOn_of_off {s : State} (hoff : s.power.mainOn = false) (f : State → State) : s.whenOn f = s :=
  if_neg (ne_true_of_eq_false hoff)

theorem whenOn_of_on {s : State} (hon : s.power.mainOn = true) (f : State → State) : s.whenOn f = f s := if_pos hon

/-- Settles O4: a good frame acts on a part that receives, any other row but four on one that has main power. -/
theorem nothingIsTakenWithoutPowerOrCarrier : Obligations.NothingIsTakenWithoutPowerOrCarrier := by
  have hframe : ∀ (c : Instr) (s : State), ¬receives s → isGoodFrame c = true → exec c s = .next s := by
    intro c s hs hgood
    obtain ⟨f, hf⟩ := exec_of_goodFrame hgood s
    rw [hf, receive_of_not_receives hs]
  refine ⟨hframe, fun c s hoff hrow => ?_⟩
  cases hgood : isGoodFrame c with
  | true => exact hframe c s (fun hs => by rw [hs.1] at hoff; cases hoff) hgood
  | false =>
    obtain ⟨f, hf⟩ := exec_of_otherRow hgood hrow s
    rw [hf, whenOn_of_off hoff]

/-! ## Frames that no block takes (R176, R178, R179) -/

/-- While the trunk is Up, a Status with another reception result joins the frames awaiting transmission. -/
theorem reject_of_up {s : State} (hup : s.trunk.up = true) (cls kind tag : Nat) (reception : Reception) :
    s.reject cls kind tag reception = withRefusal s cls kind tag reception :=
  if_pos hup

/-- Settles O5, by the trunk state that each frame finds or leaves. -/
theorem refusedFramesAreAnswered : Obligations.RefusedFramesAreAnswered := by
  refine fun s cls kind tag => ⟨fun hon hup => ?checked, fun hdown => ?unchecked, fun hs => ⟨?unknown, ?malformed, ?discarded⟩⟩
  case checked =>
    refine congrArg Host.Outcome.next ((whenOn_of_on hon _).trans ((if_pos hup).trans ?_))
    exact reject_of_up hup ..
  case unchecked =>
    refine congrArg Host.Outcome.next ?_
    cases hon : s.power.mainOn with
    | false => exact whenOn_of_off hon _
    | true => exact (whenOn_of_on hon _).trans (if_neg (ne_true_of_eq_false hdown))
  case unknown =>
    exact congrArg Host.Outcome.next ((receive_of_receives hs _).trans (reject_of_up (trunk_up_up s) ..))
  case malformed =>
    exact congrArg Host.Outcome.next ((receive_of_receives hs _).trans (reject_of_up (trunk_up_up s) ..))
  case discarded => exact congrArg Host.Outcome.next (receive_of_receives hs _)

/-! ## STATUS_READ (R183) and RESTART (R186) -/

/-- Settles O6: the items of the model are those of R183. -/
theorem statusReadReportsEveryItem : Obligations.StatusReadReportsEveryItem := by
  intro s tag hs
  refine congrArg Host.Outcome.next ((command_of_takes hs 1 tag _ (trunk_up_up s)).trans ?_)
  rw [← gateCount_eq_gatesEnrolled]
  rfl

/-- A frame taken by an Idle Command Engine is handed to it in the state with the trunk Up. -/
theorem engineFrame_of_takes {s : State} (hs : takes s) (cls kind tag : Nat) (f : State → State) :
    s.engineFrame cls kind tag f = f (up s) := by
  have hengine : (up s).engine.state = .idle := by rw [engine_up, hs.2]
  rw [State.engineFrame, receive_of_receives hs.1, hengine]

/-- Settles O12, by the option that is read. -/
theorem restartStaysExecuting : Obligations.RestartStaysExecuting := by
  intro s tag option hs
  refine congrArg Host.Outcome.next ((engineFrame_of_takes hs 1 34 tag _).trans ?_)
  cases readRestartOption option with
  | none => exact answer_of_up (trunk_up_up s) ..
  | some k =>
    exact answer_of_up (s := (up s).setEngine { (up s).engine with
      state := .executing 34 tag, restartOption := some k }) (trunk_up_up s) ..

/-! ## Reset -/

/-- Settles O29: a cold start leaves every list empty and every count at 0. -/
theorem resetIsAColdStartAndSound : Obligations.ResetIsAColdStartAndSound := by
  refine ⟨⟨Nat.zero_le _, Nat.zero_le _, ⟨Nat.zero_le _, rfl, Nat.zero_le _⟩, fun hon => absurd rfl hon,
    ⟨rfl, fun c p => ?_⟩, ⟨rfl, fun hon => absurd rfl hon⟩, ?_, ⟨rfl, Nat.zero_le _⟩, ⟨rfl, Nat.zero_le _⟩,
    ⟨rfl, Nat.zero_le _, List.forall_mem_nil _⟩, ⟨List.Pairwise.nil, List.forall_mem_nil _⟩, ?_, ?_, ?_⟩, rfl⟩
  · cases c <;> cases p <;> rfl
  · exact ⟨rfl, Nat.zero_le _, List.nodup_nil, List.forall_mem_nil _, List.forall_mem_nil _⟩
  · exact ⟨Nat.zero_le _, List.forall_mem_nil _, List.nodup_nil, List.nodup_nil, List.forall_mem_nil _⟩
  · intro l e n v he
    have hcold : (State.reset.line l).exchange = none := by simp [State.reset, State.cold, State.line, Line.cold]
    rw [hcold] at he
    nomatch he
  · show Profile.default.legal
    unfold Profile.legal Profile.default
    decide

end Sys2Proof.Proofs

/-! PROOF. The comparisons of the voyage clock (R103, R192, R193), port calls (R102, R104), and the reads of counts and
pages (R119, R120, R138, R139). -/

namespace Sys2Proof.Proofs

open Sys2Proof.Machine Sys2Proof.Claims

/-! ## The rollover and the all-aboard transition -/

/-- The model's rollover is that of the statements (R85). -/
theorem rollover_eq_rolledOver (s : State) : s.rollover = rolledOver s := rfl

/-- The model's transition to Last Call is that of the statements (R103). -/
theorem enterLastCall_eq_inLastCall {s : State} {a : DateTime} (h : s.passage.port = .inPort a) :
    s.enterLastCall = inLastCall s a := by
  unfold State.enterLastCall
  rw [h]
  rfl

/-- The all-aboard time is reached by the voyage clock (R103). -/
theorem allAboardReached_iff (s : State) :
    s.allAboardReached = true ↔ ∃ t a, s.engine.voyage.time = some t ∧ reachesAllAboard s t a := by
  unfold State.allAboardReached reachesAllAboard
  cases s.passage.port <;> cases s.engine.voyage.time <;> simp [notLater]

/-- What the comparison of the clock comes to where the all-aboard time is not reached. -/
theorem compareClock_of_not_due {s : State} (h : s.allAboardReached = false) (b : Bool) :
    s.compareClock b = if b = true then rolledOver s else s := by
  unfold State.compareClock
  rw [h, Bool.and_false]
  rfl

/-- Where only the all-aboard time is reached, the port call is in Last Call. -/
theorem compareClock_of_due {s : State} {t a : DateTime} (htime : s.engine.voyage.time = some t)
    (hdue : reachesAllAboard s t a) : s.compareClock false = inLastCall s a := by
  have hreached := (allAboardReached_iff s).2 ⟨t, a, htime, hdue⟩
  unfold State.compareClock
  rw [hreached, ← enterLastCall_eq_inLastCall hdue.1]
  rfl

/-- Where both are reached, the free choice tells which comes first (log 7). -/
theorem compareClock_of_both {s : State} {t a : DateTime} (htime : s.engine.voyage.time = some t)
    (hdue : reachesAllAboard s t a) :
    let d : State := { s with free := s.free + 1 }
    s.compareClock true = inLastCall (rolledOver d) a ∨ s.compareClock true = rolledOver (inLastCall d a) := by
  have hreached := (allAboardReached_iff s).2 ⟨t, a, htime, hdue⟩
  obtain ⟨hport, -⟩ := hdue
  intro d
  have hfirst : (rolledOver d).enterLastCall = inLastCall (rolledOver d) a := enterLastCall_eq_inLastCall hport
  have hsecond : d.enterLastCall = inLastCall d a := enterLastCall_eq_inLastCall hport
  unfold State.compareClock
  rw [hreached, Bool.and_true, if_pos rfl]
  cases Config.rolloverFirst s.free with
  | true => exact .inl hfirst
  | false => exact .inr (congrArg State.rollover hsecond)

/-- The comparison of the clock leaves the Trunk Port. -/
theorem trunk_compareClock (s : State) (b : Bool) : (s.compareClock b).trunk = s.trunk := by
  have hcall : ∀ t : State, t.enterLastCall.trunk = t.trunk := fun t => by
    unfold State.enterLastCall
    split <;> rfl
  unfold State.compareClock
  split
  · dsimp only
    split
    · exact hcall _
    · exact hcall _
  · split
    · rfl
    · split
      · exact hcall s
      · rfl

/-! ## CLOCK_SET (R193) -/

theorem crossedBy_iff (v : VoyageClock) (t : DateTime) : v.crossedBy t = true ↔ crossed v t := by
  unfold VoyageClock.crossedBy crossed
  cases v.time <;> cases v.boundary <;> simp [notLater]

/-- CLOCK_SET taken: the Status of the setting in the state with the trunk Up. -/
theorem exec_clockSet {s : State} (hs : takes s) (tag : Nat) (time : DateTime) :
    exec (.clockSet tag time) s = .next (answered 2 tag (bare (setClock (up s) time))) := by
  refine congrArg Host.Outcome.next (command_of_takes hs 2 tag _ ?_)
  show (setClock (up s) time).1.trunk.up = true
  unfold setClock
  split
  · exact (congrArg TrunkPort.up (trunk_compareClock _ _)).trans (trunk_up_up s)
  · exact trunk_up_up s

/-- The state of a clock that takes a value, before what it reaches is compared. -/
def clockTaken (s : State) (time : DateTime) : State :=
  s.setEngine { s.engine with voyage := s.engine.voyage.setTo s.engine.profile.dayBoundaryHour time }

theorem setClock_of_valid {time : DateTime} (htime : validTime time = true) (s : State) :
    setClock s time = ((clockTaken s time).compareClock (s.engine.voyage.crossedBy time), .ok) := if_pos htime

/-- Where no all-aboard time is reached by the value, none is due after it. -/
theorem allAboardReached_clockTaken {s : State} {time : DateTime} (h : ∀ a, ¬reachesAllAboard s time a) :
    (clockTaken s time).allAboardReached = false := by
  rw [← Bool.not_eq_true, allAboardReached_iff]
  rintro ⟨t, a, ht, ha⟩
  cases ht
  exact h a ha

/-- Settles O7, by what the value reaches. -/
theorem clockSetSettlesBoundaryAndAllAboard : Obligations.ClockSetSettlesBoundaryAndAllAboard := by
  intro s tag time hs
  dsimp only
  rw [exec_clockSet hs]
  refine ⟨fun hbad => ?_, fun htime => ?_⟩
  · rw [setClock, if_neg (ne_true_of_eq_false hbad)]
    rfl
  rw [setClock_of_valid htime]
  refine ⟨fun hcross hnone => ?_, fun hcross hnone => ?_, fun a hcross hdue => ?_, fun a hcross hdue => ?_⟩
  · rw [compareClock_of_not_due (allAboardReached_clockTaken hnone), if_neg (mt (crossedBy_iff ..).1 hcross)]
    rfl
  · rw [compareClock_of_not_due (allAboardReached_clockTaken hnone), if_pos ((crossedBy_iff ..).2 hcross)]
    rfl
  · rw [Bool.eq_false_iff.2 (mt (crossedBy_iff ..).1 hcross), compareClock_of_due (s := clockTaken (up s) time) (t := time) rfl hdue]
    rfl
  · rw [(crossedBy_iff ..).2 hcross]
    rcases compareClock_of_both (s := clockTaken (up s) time) (t := time) rfl hdue with h | h
    · exact .inl (by rw [h]; rfl)
    · exact .inr (by rw [h]; rfl)

/-! ## Port calls (R102, R104) -/

theorem isAtSea_iff (p : PortState) : p.isAtSea = true ↔ p = .atSea := by
  cases p <;> simp [PortState.isAtSea]

/-- PORT_CALL_OPEN taken: the Status of the opening in the state with the trunk Up. -/
theorem exec_portCallOpen {s : State} (hs : takes s) (tag : Nat) (time : DateTime) :
    exec (.portCallOpen tag time) s = .next (answered 17 tag (bare (openPortCall (up s) time))) := by
  refine congrArg Host.Outcome.next (command_of_takes hs 17 tag _ ?_)
  have htrunk : (openPortCall (up s) time).1.trunk = (up s).trunk := by
    unfold openPortCall
    (repeat' split) <;> rfl
  exact (congrArg TrunkPort.up htrunk).trans (trunk_up_up s)

/-- PORT_CALL_CLOSE taken: the Status of the closing in the state with the trunk Up. -/
theorem exec_portCallClose {s : State} (hs : takes s) (tag : Nat) :
    exec (.portCallClose tag) s = .next (answered 18 tag (bare (closePortCall (up s)))) := by
  refine congrArg Host.Outcome.next (command_of_takes hs 18 tag _ ?_)
  have htrunk : (closePortCall (up s)).1.trunk = (up s).trunk := by
    unfold closePortCall
    (repeat' split) <;> rfl
  exact (congrArg TrunkPort.up htrunk).trans (trunk_up_up s)

/-- The cases of R102 against a clock that is set. -/
theorem openPortCall_of_clock {s : State} {now : DateTime} (hnow : s.engine.voyage.time = some now) (time : DateTime) :
    openPortCall s time =
      if validTime time = false then (s, .parameter)
      else if timeKey time ≤ timeKey now then (s, .parameter)
      else if s.passage.port = .atSea then
        (s.setPassage { s.passage with port := .inPort time, untrackedIn := 0, untrackedOut := 0 }, .ok)
      else (s.setPassage { s.passage with port := .inPort time }, .ok) := by
  simp only [openPortCall, hnow, ite_or, notLater, decide_eq_true_eq, isAtSea_iff]

/-- Settles O15, by the clock that is found and the first case of R102 and of R104 that applies. -/
theorem portCallsOpenAndClose : Obligations.PortCallsOpenAndClose := by
  refine ⟨fun s tag time hs => ?opening, fun s tag hs => ?closing⟩
  case opening =>
    refine (exec_portCallOpen hs ..).trans (congrArg (fun r => Host.Outcome.next (answered 17 tag r)) ?_)
    cases hnow : (up s).engine.voyage.time with
    | none =>
      rw [openPortCall, hnow]
      exact (ite_self _).symm
    | some now =>
      rw [openPortCall_of_clock hnow]
      simp only [apply_ite bare]
      rfl
  case closing =>
    refine (exec_portCallClose hs tag).trans (congrArg (fun r => Host.Outcome.next (answered 18 tag r)) ?_)
    simp only [closePortCall, apply_ite bare, isAtSea_iff]
    rfl

/-! ## Counts and pages (R119, R120, R138, R139) -/

/-- The first 32 numbers and the next start, as the statements say. -/
theorem cardPage_eq (cards : List CardEntry) (test : CardEntry → Bool) (start total : Nat) :
    StatusData.page (cardPage cards test start).1 (cardPage cards test start).2 total =
      pageOf (numbersFrom cards test start) total := rfl

theorem startOutOfRange_iff (start : Nat) :
    start = 0 ∨ 16777215 < start ↔ inRange 1 Config.maxCardNumber start = false :=
  (inRange_one_eq_false_iff _ _).symm

/-- A page read is refused for a start out of its range. -/
theorem readAshore_eq (s : State) (start : Nat) :
    readAshore s start =
      if start = 0 ∨ 16777215 < start then (.parameter, .none)
      else (.ok, pageOf (numbersFrom s.cards (fun e => e.presence == .ashore) start) s.passage.counters.ashore) := by
  rw [if_congr (startOutOfRange_iff start) rfl rfl, readAshore, ← cardPage_eq]
  cases inRange 1 Config.maxCardNumber start <;> rfl

theorem readUnaccounted_eq (s : State) (start : Nat) :
    readUnaccounted s start =
      if start = 0 ∨ 16777215 < start then (.parameter, .none)
      else (.ok, pageOf (numbersFrom s.cards isUnaccounted start) (s.cards.filter isUnaccounted).length) := by
  rw [if_congr (startOutOfRange_iff start) rfl rfl, readUnaccounted, ← cardPage_eq]
  cases inRange 1 Config.maxCardNumber start <;> rfl

/-- ASHORE_READ taken: the Status of the page in the state with the trunk Up, which stays. -/
theorem exec_ashoreRead {s : State} (hs : takes s) (tag start : Nat) :
    exec (.ashoreRead tag start) s = .next (answered 22 tag (readOnly (up s) (readAshore (up s) start))) :=
  congrArg Host.Outcome.next (command_of_takes hs 22 tag _ (trunk_up_up s))

/-- UNACCOUNTED_READ taken: the Status of the page in the state with the trunk Up, which stays. -/
theorem exec_unaccountedRead {s : State} (hs : takes s) (tag start : Nat) :
    exec (.unaccountedRead tag start) s =
      .next (answered 26 tag (readOnly (up s) (readUnaccounted (up s) start))) :=
  congrArg Host.Outcome.next (command_of_takes hs 26 tag _ (trunk_up_up s))

/-- Settles O17, by the start in and out of its range. -/
theorem countAndPageReadsAnswerAndChangeNothing : Obligations.CountAndPageReadsAnswerAndChangeNothing := by
  refine ⟨fun s tag hs => ⟨?counters, ?roll⟩, fun s tag start hs => ⟨fun hlow hhigh => ?pages, fun hbad => ?refused⟩⟩
  case counters => exact congrArg Host.Outcome.next (command_of_takes hs 21 tag _ (trunk_up_up s))
  case roll => exact congrArg Host.Outcome.next (command_of_takes hs 25 tag _ (trunk_up_up s))
  case pages =>
    have hgood : ¬(start = 0 ∨ 16777215 < start) := by omega
    rw [exec_ashoreRead hs, exec_unaccountedRead hs, readAshore_eq, readUnaccounted_eq, if_neg hgood, if_neg hgood]
    exact ⟨rfl, rfl⟩
  case refused =>
    rw [exec_ashoreRead hs, exec_unaccountedRead hs, readAshore_eq, readUnaccounted_eq, if_pos hbad, if_pos hbad]
    exact ⟨rfl, rfl⟩

end Sys2Proof.Proofs

/-! PROOF. Card entries offered: their form (R8), and their merge and purge (R9-R11, R163, R164). -/

namespace Sys2Proof.Proofs

open Sys2Proof.Machine Sys2Proof.Claims

/-! ## The form of a card entry (R8) -/

theorem readClass_eq_some_iff (n : Nat) (c : HolderClass) : readClass n = some c ↔ n = c.code := by
  constructor
  · intro h
    unfold readClass at h
    split at h <;> cases h <;> rfl
  · rintro rfl
    cases c <;> rfl

theorem readCardStatus_eq_some_iff (n : Nat) (c : CardStatus) : readCardStatus n = some c ↔ n = c.code := by
  constructor
  · intro h
    unfold readCardStatus at h
    split at h <;> cases h <;> rfl
  · rintro rfl
    cases c <;> rfl

theorem readYesNo_eq_some_iff (n : Nat) (b : Bool) : readYesNo n = some b ↔ n = if b then 1 else 2 := by
  constructor
  · intro h
    unfold readYesNo at h
    split at h <;> cases h <;> rfl
  · rintro rfl
    cases b <;> rfl

theorem inRange_eq_true_iff (low high n : Nat) : inRange low high n = true ↔ low ≤ n ∧ n ≤ high := decide_eq_true_iff

/-- The entry that an offer carries, for the three codes as they are read. -/
def cardOf (o : CardOffer) (cls : HolderClass) (status : CardStatus) (search : Bool) : CardData :=
  { number := o.number, issue := o.issue, cls := cls, status := status, account := o.account, cabins := o.cabins,
    zones := o.zones, window := o.window, musterStation := o.musterStation, search := search }

/-- An offer whose three codes are read gives its entry when that is well formed. -/
theorem readCard_eq_some_iff_of_read {o : CardOffer} {cls : HolderClass} {status : CardStatus} {search : Bool}
    (hcls : readClass o.cls = some cls) (hstatus : readCardStatus o.status = some status)
    (hsearch : readYesNo o.search = some search) (d : CardData) :
    readCard o = some d ↔ cardWellFormed (cardOf o cls status search) ∧ cardOf o cls status search = d := by
  obtain ⟨number, issue, clsCode, statusCode, account, cabins, zones, window, musterStation, searchCode, presence⟩ := o
  simp only [readCard, hcls, hstatus, hsearch]
  rw [Option.ite_none_right_eq_some, Option.some_inj]
  refine and_congr ?_ Iff.rfl
  have hfields : (search = true → cls = .crew ∨ cls = .officer) ↔ (search = false ∨ cls = .crew) ∨ cls = .officer := by
    cases search <;> simp
  cases account <;> cases window <;>
    simp only [cardWellFormed, cardOf, inRange_eq_true_iff, notLater, Config.maxCardNumber, Config.maxAccountNumber,
      Config.maxCabinNumber, Bool.and_eq_true, Bool.or_eq_true, Bool.not_eq_true', decide_eq_true_eq, List.all_eq_true,
      distinct_iff_nodup, beq_iff_eq, Option.mem_def, Option.some.injEq, forall_eq', reduceCtorEq, false_imp_iff,
      implies_true, Nat.zero_le, true_and, and_true, hfields] <;>
    ac_nf

/-- Settles O23: the codes are read from themselves alone, and the tests of the model are those of R8. -/
theorem offeredCardIsReadWhenWellFormed : Obligations.OfferedCardIsReadWhenWellFormed := by
  intro o d
  constructor
  · intro h
    have hread := h
    unfold readCard at hread
    split at hread
    case h_1 cls status search hcls hstatus hsearch =>
      obtain ⟨hform, rfl⟩ := (readCard_eq_some_iff_of_read hcls hstatus hsearch d).1 h
      exact ⟨⟨rfl, rfl, (readClass_eq_some_iff ..).1 hcls, (readCardStatus_eq_some_iff ..).1 hstatus, rfl, rfl, rfl, rfl,
        rfl, (readYesNo_eq_some_iff ..).1 hsearch⟩, hform⟩
    case h_2 => exact nomatch hread
  · rintro ⟨⟨hnumber, hissue, hcls, hstatus, haccount, hcabins, hzones, hwindow, hmuster, hsearch⟩, hform⟩
    have hoffered : cardOf o d.cls d.status d.search = d := by
      rw [cardOf, hnumber, hissue, haccount, hcabins, hzones, hwindow, hmuster]
    refine (readCard_eq_some_iff_of_read ((readClass_eq_some_iff ..).2 hcls) ((readCardStatus_eq_some_iff ..).2 hstatus)
      ((readYesNo_eq_some_iff ..).2 hsearch) d).2 ⟨?_, hoffered⟩
    rwa [hoffered]

/-! ## What a card claim finds and does (R9-R11, R137, R171) -/

theorem guards_iff_fenced (s : State) (n : Nat) : s.engine.protection.guards n = true ↔ fenced s n := by
  unfold Protection.guards fenced
  cases s.engine.protection.range with
  | none => simp
  | some r => obtain ⟨a, b⟩ := r; simp [inRange]

theorem cardHolds_iff_cardInUse (s : State) (n : Nat) : s.charge.cardHolds n = true ↔ cardInUse s n := by
  simp [ChargeUnit.cardHolds, cardInUse]

theorem moveRoll_eq_rollMoved (s : State) (e : CardEntry) (c : HolderClass) :
    s.moveRoll e c = s.setMuster (rollMoved s e c) := by
  unfold State.moveRoll rollMoved
  cases e.mark with
  | unmarked => rfl
  | mustered st =>
    dsimp only
    split <;> rfl

theorem rewriteCard_eq_cardRewritten (s : State) (e : CardEntry) (d : CardData) :
    s.rewriteCard e d = cardRewritten s e d := by
  unfold State.rewriteCard cardRewritten
  dsimp only
  by_cases hcls : e.data.cls = d.cls
  · simp only [if_pos hcls]
    rfl
  · simp only [if_neg hcls, moveRoll_eq_rollMoved]
    rfl

theorem readCarriedPresence_eq_none_iff (pr : Option Nat) :
    readCarriedPresence pr = none ↔ ∃ n, pr = some n ∧ readPresence n = none := by
  cases pr <;> simp [readCarriedPresence]

theorem readCarriedPresence_eq_some_iff (pr : Option Nat) (p : Presence) :
    readCarriedPresence pr = some p ↔ pr = none ∧ p = .unknown ∨ ∃ n, pr = some n ∧ readPresence n = some p := by
  cases pr <;> simp [readCarriedPresence, eq_comm]

/-- A claim on a card that is there: the first of PROTECT and IN_USE that applies, else the rewrite. -/
theorem applyCard_of_card {s : State} {d : CardData} {e : CardEntry} (he : s.card? d.number = some e)
    (pr : Option Nat) :
    (fenced s d.number → s.applyCard d pr = (s, .protect)) ∧
    (¬fenced s d.number → e.data.account ≠ d.account → cardInUse s d.number → s.applyCard d pr = (s, .inUse)) ∧
    (¬fenced s d.number → (e.data.account = d.account ∨ ¬cardInUse s d.number) →
      s.applyCard d pr = (cardRewritten s e d, .ok)) := by
  rw [← guards_iff_fenced, ← cardHolds_iff_cardInUse, ← rewriteCard_eq_cardRewritten]
  unfold State.applyCard
  rw [he]
  refine ⟨fun hfenced => if_pos hfenced, fun hfree hne huse => ?_, fun hfree hok => ?_⟩
  · exact (if_neg hfree).trans (if_pos ⟨hne, huse⟩)
  · exact (if_neg hfree).trans (if_neg fun ⟨hne, huse⟩ => hok.elim hne (· huse))

/-- A claim on a card that is not there: the first of PARAMETER, PROTECT and FULL that applies, else the insertion. -/
theorem applyCard_of_no_card {s : State} {d : CardData} (he : s.card? d.number = none) (pr : Option Nat) :
    ((∃ n, pr = some n ∧ readPresence n = none) → s.applyCard d pr = (s, .parameter)) ∧
    (∀ p, (pr = none ∧ p = .unknown ∨ ∃ n, pr = some n ∧ readPresence n = some p) →
      (fenced s d.number → s.applyCard d pr = (s, .protect)) ∧
      (¬fenced s d.number → 8192 ≤ s.cards.length → s.applyCard d pr = (s, .full)) ∧
      (¬fenced s d.number → s.cards.length < 8192 → s.applyCard d pr = (cardInserted s d p, .ok))) := by
  rw [← guards_iff_fenced, ← readCarriedPresence_eq_none_iff]
  unfold State.applyCard
  rw [he]
  refine ⟨fun hnone => by rw [hnone], fun p hp => ?_⟩
  rw [(readCarriedPresence_eq_some_iff pr p).2 hp]
  refine ⟨fun hfenced => if_pos hfenced, fun hfree hfull => ?_, fun hfree hroom => ?_⟩
  · exact (if_neg hfree).trans (if_pos hfull)
  · exact (if_neg hfree).trans (if_neg (Nat.not_le.2 hroom))

/-! ## Card entries (R163, R164) -/

/-- An entry whose mode is permitted is settled by the owner of its table (R162). -/
theorem settleEntry_of_permitted {s : State} {mode : LoadMode} (h : permitted s.engine.protection mode = true)
    (e : DataEntry) : settleEntry s mode e = offerEntry s e := by
  rw [settleEntry, allows_eq_permitted, if_pos h]

theorem offerCard_of_read {o : CardOffer} {d : CardData} (h : readCard o = some d) (s : State) :
    offerCard s o = s.applyCard d o.presence := by
  rw [offerCard, h]

theorem offerCard_of_unread {o : CardOffer} (h : ∀ d, readCard o ≠ some d) (s : State) :
    offerCard s o = (s, .parameter) := by
  rw [offerCard, Option.eq_none_iff_forall_ne_some.2 h]

/-- A removal is refused for work in progress (R11). -/
theorem removalInUse_iff {s : State} {n : Nat} {e : CardEntry} (he : s.card? n = some e) :
    s.removalInUse e = true ↔
      cardInUse s n ∨ (∃ p ∈ s.passage.passages, p.card = some n) ∨ (s.muster.state ≠ .off ∧ e.mark ≠ .unmarked) := by
  rw [State.removalInUse, Bool.or_eq_true, Bool.or_eq_true, cardHolds_iff_cardInUse, State.card?_number he, or_assoc]
  simp [State.cardPending]

/-- Settles O24, by the entry that is read and the first failure that applies. -/
theorem cardEntriesAreMergedAndPurged : Obligations.CardEntriesAreMergedAndPurged := by
  refine ⟨fun s o hload => ⟨fun hnone => ?_, fun d e hd he => ?_, fun d hd he => ?_⟩, fun s n hpurge => ⟨fun hbad => ?_,
    fun hlow hhigh => ?_⟩⟩
  · rw [settleEntry_of_permitted (mode := .merge) hload]
    exact offerCard_of_unread hnone s
  · rw [settleEntry_of_permitted (mode := .merge) hload, offerEntry, offerCard_of_read hd]
    exact applyCard_of_card he o.presence
  · rw [settleEntry_of_permitted (mode := .merge) hload, offerEntry, offerCard_of_read hd]
    exact applyCard_of_no_card he o.presence
  · rw [settleEntry_of_permitted (mode := .purge) hpurge]
    exact if_pos ((startOutOfRange_iff n).1 hbad)
  · have hrange : ¬inRange 1 Config.maxCardNumber n = false := mt (startOutOfRange_iff n).2 (by omega)
    rw [settleEntry_of_permitted (mode := .purge) hpurge, offerEntry, purgeCard, if_neg hrange, ← guards_iff_fenced]
    refine ⟨fun hfenced => if_pos hfenced, fun hfree hnone => ?_, fun e hfree he => ?_⟩
    · rw [if_neg hfree, hnone]
    · rw [if_neg hfree, he]
      refine ⟨fun huse => if_pos ((removalInUse_iff he).2 huse), fun hholds hpassages hmark => ?_⟩
      have hok : ¬s.removalInUse e = true := by
        rw [removalInUse_iff he]
        rintro (huse | ⟨p, hp, hcard⟩ | ⟨hon, hmarked⟩)
        · exact hholds huse
        · exact hpassages p hp hcard
        · exact hmark.elim hon hmarked
      exact if_neg hok

end Sys2Proof.Proofs

/-! PROOF. Account and cabin entries offered: their form, merge and purge (R46, R47, R68, R69, R165, R166). -/

namespace Sys2Proof.Proofs

open Sys2Proof.Machine Sys2Proof.Claims

/-! ## Account entries (R68, R69, R165) -/

/-- The fields of an offered account lie in their ranges (R68 test 1). -/
def accountInRanges (o : AccountOffer) : Prop :=
  1 ≤ o.number ∧ o.number ≤ 999999 ∧ o.voyageCap ≤ 99999999 ∧ o.dailyCap ≤ 99999999 ∧
    (∀ n ∈ o.voyageSpent, n ≤ 99999999) ∧ ∀ n ∈ o.dailySpent, n ≤ 99999999

/-- An offered account is read exactly when its state is a code of the list and its fields lie in their ranges. -/
theorem readAccount_eq_some_iff (o : AccountOffer) (x : AccountState × Option Nat × Option Nat) :
    readAccount o = some x ↔
      ∃ st, readAccountState o.state = some st ∧ accountInRanges o ∧ (st, o.voyageSpent, o.dailySpent) = x := by
  obtain ⟨number, state, voyageCap, dailyCap, voyageSpent, dailySpent⟩ := o
  unfold readAccount
  cases hst : readAccountState state with
  | none => simp
  | some st =>
    simp only [Option.some_inj, exists_eq_left', Option.ite_none_right_eq_some]
    refine and_congr ?_ Iff.rfl
    cases voyageSpent <;> cases dailySpent <;>
      simp only [accountInRanges, Bool.and_eq_true, inRange_eq_true_iff, Config.maxAccountNumber, Config.maxCap,
        Option.mem_def, Option.some.injEq, forall_eq', reduceCtorEq, false_imp_iff, implies_true, Nat.zero_le, true_and,
        and_true] <;>
      ac_nf

theorem offerAccount_of_unread {o : AccountOffer} (h : ¬∃ st, readAccountState o.state = some st ∧ accountInRanges o)
    (s : State) : offerAccount s o = (s, .parameter) := by
  have hread : readAccount o = none := Option.eq_none_iff_forall_ne_some.2 fun x hx =>
    let ⟨st, hst, hin, _⟩ := (readAccount_eq_some_iff o x).1 hx
    h ⟨st, hst, hin⟩
  rw [offerAccount, hread]

/-- The account that an offer leaves, from the one there was, if any. -/
def accountOffered (o : AccountOffer) (st : AccountState) (old : Option Account) : Account :=
  { number := o.number, state := st, voyageCap := o.voyageCap, dailyCap := o.dailyCap
    voyageSpent := o.voyageSpent.getD ((old.map Account.voyageSpent).getD 0)
    dailySpent := o.dailySpent.getD ((old.map Account.dailySpent).getD 0)
    heldTotal := (old.map Account.heldTotal).getD 0 }

/-- The offer of an account in form: the caps, then the holds of a closed account or the room of a new one. -/
theorem offerAccount_of_inRanges {o : AccountOffer} {st : AccountState} (hst : readAccountState o.state = some st)
    (hin : accountInRanges o) (s : State) :
    offerAccount s o =
      let b := accountOffered o st (s.account? o.number)
      if b.voyageCap < b.voyageSpent + b.heldTotal ∨ b.dailyCap < b.dailySpent + b.heldTotal then (s, .parameter)
      else if (s.account? o.number).isSome ∧ st = .closed ∧ s.charge.holdsOf o.number ≠ [] then (s, .inUse)
      else if (s.account? o.number).isNone ∧ 4096 ≤ s.charge.accounts.length then (s, .full)
      else ({ s with charge := { s.charge with accounts := put Account.number b s.charge.accounts } }, .ok) := by
  have hread := (readAccount_eq_some_iff o _).2 ⟨st, hst, hin, rfl⟩
  unfold offerAccount
  rw [hread]
  cases hold : s.account? o.number with
  | none =>
    simp only [accountOffered, ite_or, Option.isSome_none, Option.isNone_none, Bool.false_eq_true, false_and, if_false,
      true_and]
    rfl
  | some a =>
    simp only [State.account?_number hold, accountOffered, ite_or, Option.isSome_some, Option.isNone_some, Bool.false_eq_true, false_and, if_false,
      true_and]
    rfl

/-- Settles O25: an offer in form by the account there was, one out of form by the field that is out of its range. -/
theorem accountEntriesKeepCapsAndHolds : Obligations.AccountEntriesKeepCapsAndHolds := by
  refine ⟨fun s o st hload hlow hhigh hst hvcap hdcap hvoyage hdaily => ?_, fun s o hload hbad => ?_,
    fun s n hpurge => ?_⟩
  · rw [settleEntry_of_permitted (mode := .merge) hload]
    exact offerAccount_of_inRanges hst ⟨hlow, hhigh, hvcap, hdcap, hvoyage, hdaily⟩ s
  · rw [settleEntry_of_permitted (mode := .merge) hload]
    refine offerAccount_of_unread ?_ s
    rintro ⟨st, hst, hlow, hhigh, hvcap, hdcap, hvoyage, hdaily⟩
    rcases hbad with hbad | hbad | hbad | hbad | hbad | ⟨n, hn, hbad⟩ | ⟨n, hn, hbad⟩
    · omega
    · omega
    · exact nomatch hbad.symm.trans hst
    · omega
    · omega
    · exact absurd (hvoyage n hn) (Nat.not_le.2 hbad)
    · exact absurd (hdaily n hn) (Nat.not_le.2 hbad)
  · have hrange : inRange 1 Config.maxAccountNumber n = false ↔ ¬(1 ≤ n ∧ n ≤ 999999) := decide_eq_false_iff_not
    rw [settleEntry_of_permitted (mode := .purge) hpurge, offerEntry, purgeAccount]
    exact if_congr hrange rfl (if_congr Option.isNone_iff_eq_none rfl rfl)

/-! ## The form of a cabin entry (R46, R190) -/

/-- A byte names a set of sensors exactly when it is the set's code: 16 bytes and 16 sets. -/
theorem readSensorSet_eq_some_iff (n : Nat) (x : Sensors) : readSensorSet n = some x ↔ n = sensorCode x := by
  constructor
  · intro h
    obtain ⟨hn, h⟩ := Option.ite_none_right_eq_some.1 h
    cases h
    exact (by decide : ∀ n < 16, n = sensorCode
      { leafClosed := n % 2 == 1, boltThrown := n / 2 % 2 == 1, privacyKnob := n / 4 % 2 == 1,
        tamperCover := n / 8 % 2 == 1 }) n hn
  · rintro rfl
    obtain ⟨leaf, bolt, knob, cover⟩ := x
    revert leaf bolt knob cover
    decide

theorem readTamper_eq_some_iff (n : Nat) (a : TamperAction) :
    readTamper n = some a ↔ n = match a with | .none => 1 | .lockOut => 2 := by
  constructor
  · intro h
    unfold readTamper at h
    split at h <;> cases h <;> rfl
  · rintro rfl
    cases a <;> rfl

theorem readStation_eq_some_iff (x : Nat × Nat) (st : Station) :
    readStation x.1 x.2 = some st ↔ x = (st.line.val, st.addr) ∧ 1 ≤ st.addr ∧ st.addr ≤ 31 := by
  obtain ⟨line, addr⟩ := x
  constructor
  · intro h
    unfold readStation readLine at h
    split at h
    case h_1 l hl =>
      obtain ⟨hline, hl⟩ := Option.dite_none_right_eq_some.1 hl
      obtain ⟨haddr, h⟩ := Option.ite_none_right_eq_some.1 h
      cases hl
      cases h
      exact ⟨rfl, haddr⟩
    case h_2 => exact nomatch h
  · rintro ⟨h, haddr⟩
    cases h
    simp [readStation, readLine, haddr]

/-- An optional part is read as its value is, by the code of the value and the range it must lie in. -/
theorem readPart_eq_some_iff {α β : Type} {read : α → Option β} {code : β → α} {good : β → Prop}
    (hread : ∀ a b, read a = some b ↔ a = code b ∧ good b) (part : Option α) (value : Option β) :
    readPart read part = some value ↔ part = value.map code ∧ ∀ b ∈ value, good b := by
  cases part with
  | none => cases value <;> simp [readPart]
  | some a => cases value <;> simp [readPart, hread]

/-- The entry that an offer carries, for the five parts as they are read. -/
def cabinOf (o : CabinOffer) (pattern mask : Sensors) (tamper : TamperAction) (openMask : Option Sensors)
    (lock : Option Station) : CabinData :=
  { number := o.number, zone := o.zone, lock := lock, pattern := pattern, mask := mask, openMask := openMask,
    tamper := tamper }

/-- What of the form of a cabin entry (R46) its parts' readers do not test. -/
theorem readCabin_eq_some_iff (o : CabinOffer) (d : CabinData) :
    readCabin o = some d ↔ ∃ pattern mask tamper openMask lock, readSensorSet o.pattern = some pattern ∧
      readSensorSet o.mask = some mask ∧ readTamper o.tamper = some tamper ∧
      readPart readSensorSet o.openMask = some openMask ∧
      readPart (fun s : Nat × Nat => readStation s.1 s.2) o.lock = some lock ∧
      (1 ≤ o.number ∧ o.number ≤ 9999 ∧ 1 ≤ o.zone ∧ o.zone ≤ 16 ∧
        ∀ m ∈ openMask, m.leafClosed = false ∧ m.boltThrown = false) ∧
      cabinOf o pattern mask tamper openMask lock = d := by
  unfold readCabin
  constructor
  · intro h
    split at h
    case h_1 pattern mask tamper openMask lock hpattern hmask htamper hopen hlock =>
      obtain ⟨hform, h⟩ := Option.ite_none_right_eq_some.1 h
      cases h
      refine ⟨pattern, mask, tamper, openMask, lock, hpattern, hmask, htamper, hopen, hlock, ?_, rfl⟩
      cases openMask <;> simpa [inRange_eq_true_iff, Config.maxCabinNumber, and_assoc] using hform
    case h_2 => exact nomatch h
  · rintro ⟨pattern, mask, tamper, openMask, lock, hpattern, hmask, htamper, hopen, hlock, hform, rfl⟩
    rw [hpattern, hmask, htamper, hopen, hlock]
    refine if_pos ?_
    cases openMask <;> simpa [inRange_eq_true_iff, Config.maxCabinNumber, and_assoc] using hform

/-- A cabin entry is in form exactly when its fields are those of a well-formed cabin. -/
theorem readCabin_iff_offered (o : CabinOffer) (d : CabinData) :
    readCabin o = some d ↔ cabinOffered o d ∧ cabinWellFormed d := by
  have hset : ∀ n x, readSensorSet n = some x ↔ n = sensorCode x ∧ True := fun n x =>
    (readSensorSet_eq_some_iff n x).trans (and_iff_left trivial).symm
  simp only [readCabin_eq_some_iff, readSensorSet_eq_some_iff, readTamper_eq_some_iff, readPart_eq_some_iff hset,
    readPart_eq_some_iff readStation_eq_some_iff]
  constructor
  · rintro ⟨pattern, mask, tamper, openMask, lock, hpattern, hmask, htamper, ⟨hopen, -⟩, ⟨hlock, haddr⟩,
      ⟨hlow, hhigh, hzone, hzone', hleaf⟩, rfl⟩
    exact ⟨⟨rfl, rfl, hpattern, hmask, htamper, hlock, hopen⟩, hlow, hhigh, hzone, hzone', hleaf, haddr⟩
  · rintro ⟨⟨hnumber, hz, hpattern, hmask, htamper, hlock, hopen⟩, hlow, hhigh, hzone, hzone', hleaf, haddr⟩
    refine ⟨d.pattern, d.mask, d.tamper, d.openMask, d.lock, hpattern, hmask, htamper, ⟨hopen, fun _ _ => trivial⟩,
      ⟨hlock, haddr⟩, ?_, ?_⟩
    · rw [hnumber, hz]
      exact ⟨hlow, hhigh, hzone, hzone', hleaf⟩
    · rw [cabinOf, hnumber, hz]

/-! ## The entry watch (R57, R59) -/

theorem effectiveMask_eq_maskInForce (c : Cabin) : c.effectiveMask = maskInForce c := by
  unfold Cabin.effectiveMask Cabin.overrideMask maskInForce
  cases c.overrideEnd <;> cases c.data.openMask <;> rfl

/-- A word matches exactly when no sensor of the mask in force differs (R57). -/
theorem wordMatches_iff_agrees (c : Cabin) (w : Sensors) : c.wordMatches w = true ↔ agrees c w := by
  simp only [Cabin.wordMatches, Cabin.mismatch, effectiveMask_eq_maskInForce, sensorsNone, sensorsBoth, sensorsDiffer,
    agrees, Bool.and_eq_true, Bool.not_eq_true', Bool.and_eq_false_imp, bne_eq_false_iff_eq, and_assoc]

/-- Re-evaluation changes the watch alone, to the one of R59. -/
theorem reevaluate_eq_reevaluatedTo (c : Cabin) :
    ∃ w, c.reevaluate = { c with watch := w } ∧ reevaluatedTo c w := by
  obtain ⟨data, lockState, windowEnd, overrideEnd, lastWord, watch, privacy, trail⟩ := c
  cases lastWord with
  | none => exact ⟨watch, rfl, ⟨fun _ => rfl, fun x hx => nomatch hx⟩⟩
  | some x =>
    refine ⟨_, rfl, ⟨(nomatch ·), fun y hy => ?_⟩⟩
    cases hy
    rw [← wordMatches_iff_agrees, Bool.not_eq_true]
    exact ⟨fun h => by rw [h]; rfl, fun h => by rw [h]; rfl⟩

/-! ## Cabin entries (R46, R47, R166) -/

theorem isLockStation_iff_isLock (s : State) (st : Station) : s.isLockStation st = true ↔ isLock s st := by
  unfold State.isLockStation isLock
  cases s.station? st <;> simp

/-- A lock station named by an offer is allowed when it is a Lock that no other cabin names (R46 tests 3 and 4). -/
theorem linkAllowed_iff (s : State) (d : CabinData) :
    s.linkAllowed d = true ↔
      ∀ st, d.lock = some st → isLock s st ∧ ∀ c, s.cabinAt? st = some c → c.data.number = d.number := by
  unfold State.linkAllowed
  cases hlock : d.lock with
  | none => simp
  | some st =>
    simp only [Bool.and_eq_true, isLockStation_iff_isLock, Option.some.injEq, forall_eq']
    cases s.cabinAt? st <;> simp

/-- Settles O26, by the cabin there was and whether the offer changes its lock station. -/
theorem cabinEntriesAreInsertedRewrittenRemoved : Obligations.CabinEntriesAreInsertedRewrittenRemoved := by
  refine ⟨readCabin_iff_offered, fun s o hload hnone => ?_, fun s o d hload hd => ⟨fun hbad => ?_, fun hlink => ?_⟩,
    fun s n hpurge => ?_⟩
  · rw [settleEntry_of_permitted (mode := .merge) hload, offerEntry, offerCabin, hnone]
  · have hdenied : s.linkAllowed d = false := by
      rw [← Bool.not_eq_true, linkAllowed_iff]
      intro hall
      obtain ⟨st, hst, hnot | ⟨c, hc, hne⟩⟩ := hbad
      · exact hnot (hall st hst).1
      · exact hne ((hall st hst).2 c hc)
    rw [settleEntry_of_permitted (mode := .merge) hload, offerEntry, offerCabin, hd]
    exact if_pos hdenied
  · have hallowed : ¬s.linkAllowed d = false := by rw [(linkAllowed_iff s d).2 hlink]; exact Bool.noConfusion
    have hoffer : settleEntry s .merge (.cabinMerge o) = match s.cabin? d.number with
        | some c => (s.setCabin (c.rewrite d), .ok)
        | none => if s.cabins.length ≥ Config.maxCabins then (s, .full) else (s.setCabin (newCabin d), .ok) := by
      rw [settleEntry_of_permitted (mode := .merge) hload, offerEntry, offerCabin, hd]
      exact if_neg hallowed
    rw [hoffer]
    refine ⟨fun hnone hfull => ?_, fun hnone hroom => ?_, fun c hc hlock => ?_, fun c hc hlock => ?_⟩
    · rw [hnone]
      exact if_pos hfull
    · rw [hnone]
      exact if_neg (Nat.not_le.2 hroom)
    · rw [hc]
      dsimp only [Cabin.rewrite]
      rw [if_neg hlock]
      rfl
    · rw [hc]
      dsimp only [Cabin.rewrite]
      rw [if_pos hlock]
      by_cases hterms : c.data.pattern = d.pattern ∧ c.data.mask = d.mask ∧ c.data.openMask = d.openMask
      · refine ⟨c.watch, ?_, fun _ _ _ => rfl, fun hnot => absurd hterms hnot⟩
        simp only [if_pos hterms]
        rfl
      · obtain ⟨w, hw, hto⟩ := reevaluate_eq_reevaluatedTo { c with data := d }
        refine ⟨w, ?_, fun hp hm ho => absurd ⟨hp, hm, ho⟩ hterms, fun _ => hto⟩
        simp only [if_neg hterms, hw]
        rfl
  · have hrange : inRange 1 Config.maxCabinNumber n = false ↔ ¬(1 ≤ n ∧ n ≤ 9999) := decide_eq_false_iff_not
    rw [settleEntry_of_permitted (mode := .purge) hpurge, offerEntry, purgeCabin]
    exact if_congr hrange rfl (if_congr Option.isNone_iff_eq_none rfl rfl)

end Sys2Proof.Proofs

/-! PROOF. Bytes read back: what a reader answers on the bytes sent (R190), and the entries of Data frames
(R161-R166). -/

namespace Sys2Proof.Proofs

open Sys2Proof.Machine Sys2Proof.Claims

/-! ## Readers and the bytes they read (R190) -/

/-- A reader takes these bytes for a value, whatever follows them. -/
def Reads {α : Type} (r : Reader α) (bs : List Byte) (x : α) : Prop := ∀ rest, r (bs ++ rest) = some (x, rest)

/-- A field of a number holds its lowest bytes. -/
theorem takeNat_numBytes (w n : Nat) (rest : List Byte) :
    takeNat w (numBytes w n ++ rest) = some (n % 256 ^ w, rest) := by
  induction w with
  | zero => simp [takeNat, numBytes, Nat.mod_one]
  | succ w ih =>
    have hbyte : (BitVec.ofNat 8 (n / 256 ^ w)).toNat = n / 256 ^ w % 256 := BitVec.toNat_ofNat ..
    simp only [numBytes, List.cons_append, takeNat, ih, hbyte, Nat.pow_succ, Nat.mod_mul]
    rw [Nat.add_comm, Nat.mul_comm]

theorem reads_takeNat {w n : Nat} (h : n < 256 ^ w) : Reads (takeNat w) (numBytes w n) n := fun rest => by
  rw [takeNat_numBytes, Nat.mod_eq_of_lt h]

theorem reads_byte {n : Nat} (h : n < 256) : Reads (takeNat 1) (oneByte n) n := reads_takeNat h

theorem reads_pure {α : Type} (x : α) : Reads (takePure x) [] x := fun _ => rfl

namespace Reads

variable {α β : Type} {r : Reader α} {bs : List Byte} {x : α}

/-- A field and what follows it. -/
theorem andThen (h : Reads r bs x) {f : α → Reader β} {cs : List Byte} {y : β} (hf : Reads (f x) cs y) :
    Reads (takeThen r f) (bs ++ cs) y := fun rest => by
  rw [List.append_assoc, takeThen, h (cs ++ rest)]
  exact hf rest

/-- The last field. -/
theorem andPure (h : Reads r bs x) (f : α → β) : Reads (takeThen r fun a => takePure (f a)) bs (f x) := fun rest => by
  rw [takeThen, h rest]
  rfl

theorem pair (h : Reads r bs x) {q : Reader β} {cs : List Byte} {y : β} (hq : Reads q cs y) :
    Reads (takePair r q) (bs ++ cs) (x, y) :=
  h.andThen (hq.andPure fun y => (x, y))

/-- A reader that takes all the bytes takes the body. -/
theorem wholeBody (h : Reads r bs x) : wholeBody r bs = some x := by
  have hread := h []
  rw [List.append_nil] at hread
  rw [Machine.wholeBody, hread]

/-- A body with bytes left over is not of its kind's form (R178). -/
theorem wholeBody_more (h : Reads r bs x) {more : List Byte} (hmore : more ≠ []) :
    Machine.wholeBody r (bs ++ more) = none := by
  rw [Machine.wholeBody, h more]
  cases more with
  | nil => exact absurd rfl hmore
  | cons b more => rfl

end Reads

theorem reads_takeOpt {α : Type} {r : Reader α} {f : α → List Byte} {o : Option α} (h : ∀ x ∈ o, Reads r (f x) x) :
    Reads (takeOpt r) (optBytes f o) o := by
  cases o with
  | none => exact (reads_byte (n := 0) (by decide)).andThen (reads_pure none)
  | some x => exact (reads_byte (n := 1) (by decide)).andThen ((h x rfl).andPure some)

theorem reads_takeMany {α : Type} {r : Reader α} {f : α → List Byte} {xs : List α} (h : ∀ x ∈ xs, Reads r (f x) x) :
    Reads (takeMany r xs.length) (xs.flatMap f) xs := by
  induction xs with
  | nil => exact reads_pure []
  | cons x xs ih =>
    exact (h x List.mem_cons_self).andThen ((ih fun y hy => h y (List.mem_cons_of_mem x hy)).andPure (x :: ·))

theorem reads_takeList {α : Type} {r : Reader α} {f : α → List Byte} {xs : List α} (hlength : xs.length < 256)
    (h : ∀ x ∈ xs, Reads r (f x) x) : Reads (takeList r) (oneByte xs.length ++ xs.flatMap f) xs :=
  (reads_byte hlength).andThen (reads_takeMany h)

/-- As many fields as asked for are read, or none. -/
theorem length_of_takeMany {α : Type} {r : Reader α} : ∀ {n : Nat} {bs rest : List Byte} {xs : List α},
    takeMany r n bs = some (xs, rest) → xs.length = n
  | 0, _, _, _, h => by cases h; rfl
  | n + 1, bs, rest, xs, h => by
    simp only [takeMany, takeThen, takePure] at h
    split at h
    case h_2 => exact nomatch h
    case h_1 x after hx =>
      split at h
      case h_2 => exact nomatch h
      case h_1 ys left hys =>
        cases h
        rw [List.length_cons, length_of_takeMany hys]

/-! ## Dates, cards, accounts and cabins -/

theorem fits_iff (w n : Nat) : fits w n = true ↔ n < 256 ^ w := decide_eq_true_iff

theorem optFits_iff (w : Nat) (o : Option Nat) : optFits w o = true ↔ ∀ n ∈ o, n < 256 ^ w := by
  cases o <;> simp [optFits, fits_iff]

theorem reads_takeTime {t : DateTime} (h : t.fits = true) : Reads takeTime (dateBytes t) t := by
  simp only [DateTime.fits, Bool.and_eq_true, fits_iff] at h
  obtain ⟨⟨⟨⟨⟨hyear, hmonth⟩, hday⟩, hhour⟩, hminute⟩, hsecond⟩ := h
  simp only [dateBytes, List.append_assoc]
  exact (reads_takeNat hyear).andThen <| (reads_byte hmonth).andThen <| (reads_byte hday).andThen <|
    (reads_byte hhour).andThen <| (reads_byte hminute).andThen <| (reads_byte hsecond).andPure _

theorem reads_takeCard {o : CardOffer} (h : o.fits = true) : Reads takeCard (cardOfferBytes o) o := by
  simp only [CardOffer.fits, Bool.and_eq_true, fits_iff, optFits_iff, countFits, decide_eq_true_eq, List.all_eq_true,
    Option.all_eq_true] at h
  obtain ⟨⟨⟨⟨⟨⟨⟨⟨⟨⟨⟨⟨hnumber, hissue⟩, hcls⟩, hstatus⟩, haccount⟩, hcount⟩, hcabins⟩, hzoneCount⟩, hzones⟩, hwindow⟩,
    hmuster⟩, hsearch⟩, hpresence⟩ := h
  simp only [cardOfferBytes, List.append_assoc]
  rw [← List.append_assoc (oneByte o.cabins.length), ← List.append_assoc (oneByte o.zones.length)]
  exact (reads_takeNat hnumber).andThen <| (reads_byte hissue).andThen <| (reads_byte hcls).andThen <|
    (reads_byte hstatus).andThen <| (reads_takeOpt fun a ha => reads_takeNat (haccount a ha)).andThen <|
    (reads_takeList hcount fun n hn => reads_takeNat (hcabins n hn)).andThen <|
    (reads_takeList hzoneCount fun n hn => reads_byte (hzones n hn)).andThen <|
    (reads_takeOpt fun w hw => (reads_takeTime (hwindow w hw).1).pair (reads_takeTime (hwindow w hw).2)).andThen <|
    (reads_byte hmuster).andThen <| (reads_byte hsearch).andThen <|
    (reads_takeOpt fun p hp => reads_byte (hpresence p hp)).andPure _

/-- A Data entry that fits its bytes is read in the form of its table and mode (R161). -/
theorem reads_takeEntry {e : DataEntry} (h : entryFits e) :
    Reads (takeEntry (entryForm e).1 (entryForm e).2.1) (entryForm e).2.2 e := by
  cases e with
  | cardMerge o => exact (reads_takeCard h).andPure _
  | cardPurge n => exact (reads_takeNat h).andPure _
  | accountMerge o =>
    obtain ⟨hnumber, hstate, hvoyage, hdaily, hspent, hspentDaily⟩ := h
    simp only [entryForm, List.append_assoc]
    refine Reads.andPure (r := takeAccount) ?_ DataEntry.accountMerge
    exact (reads_takeNat hnumber).andThen <| (reads_byte hstate).andThen <| (reads_takeNat hvoyage).andThen <|
      (reads_takeNat hdaily).andThen <| (reads_takeOpt fun n hn => reads_takeNat (hspent n hn)).andThen <|
      (reads_takeOpt fun n hn => reads_takeNat (hspentDaily n hn)).andPure _
  | accountPurge n => exact (reads_takeNat h).andPure _
  | cabinMerge o =>
    obtain ⟨hnumber, hzone, hpattern, hmask, htamper, hlock, hopen⟩ := h
    simp only [entryForm, List.append_assoc]
    refine Reads.andPure (r := takeCabin) ?_ DataEntry.cabinMerge
    exact (reads_takeNat hnumber).andThen <| (reads_byte hzone).andThen <| (reads_byte hpattern).andThen <|
      (reads_byte hmask).andThen <| (reads_byte htamper).andThen <|
      (reads_takeOpt fun x hx => (reads_byte (hlock x hx).1).pair (reads_byte (hlock x hx).2)).andThen <|
      (reads_takeOpt fun n hn => reads_byte (hopen n hn)).andPure _
  | cabinPurge n => exact (reads_takeNat h).andPure _

/-! ## Bodies of Data frames (R161) -/

/-- Entries of one table and mode. -/
theorem reads_takeEntries {table : TableName} {mode : LoadMode} {es : List DataEntry} (hcount : es.length ≤ 16)
    (h : ∀ e ∈ es, entryFits e ∧ (entryForm e).1 = table ∧ (entryForm e).2.1 = mode) :
    Reads (takeList (takeEntry table mode)) (oneByte es.length ++ es.flatMap fun e => (entryForm e).2.2) es :=
  reads_takeList (Nat.lt_of_le_of_lt hcount (by decide)) fun e he => by
    obtain ⟨hfits, rfl, rfl⟩ := h e he
    exact reads_takeEntry hfits

theorem readEntries_of_reads {table : TableName} {mode : LoadMode} {body : List Byte} {es : List DataEntry}
    (h : Reads (takeList (takeEntry table mode)) body es) (hlow : 1 ≤ es.length) (hhigh : es.length ≤ 16) :
    readEntries table mode body = some es := by
  rw [readEntries, h.wholeBody]
  exact if_pos ((inRange_eq_true_iff 1 16 es.length).2 ⟨hlow, hhigh⟩)

/-- A count of 0 or above 16 is refused (R161 case 2). -/
theorem readEntries_of_count {n : Nat} (h : n = 0 ∨ (17 ≤ n ∧ n < 256)) (table : TableName) (mode : LoadMode)
    (bs : List Byte) : readEntries table mode (oneByte n ++ bs) = none := by
  have hn : n < 256 := by omega
  unfold readEntries wholeBody
  rw [takeList, takeThen, reads_byte hn bs]
  dsimp only
  cases hread : takeMany (takeEntry table mode) n bs with
  | none => rfl
  | some x =>
    obtain ⟨es, rest⟩ := x
    have hlength := length_of_takeMany hread
    cases rest with
    | cons b rest => rfl
    | nil =>
      have hout : ¬inRange 1 Config.maxDataEntries es.length = true := by
        rw [inRange_eq_true_iff, Config.maxDataEntries]
        omega
      exact if_neg hout

/-! ## Entries settled in order (R161, R162) -/

theorem finishData_eq_dataEnded (s : State) (x : Loading) : s.finishData x = dataEnded s x.tag x.results := by
  unfold State.finishData dataEnded State.answer State.send
  rfl

theorem settleNext_eq_entryTaken (s : State) : s.settleNext = entryTaken s := by
  unfold State.settleNext entryTaken
  cases s.engine.state with
  | idle => rfl
  | executing kind tag => rfl
  | loading x =>
    obtain ⟨tag, mode, rest, results⟩ := x
    cases rest with
    | nil => exact finishData_eq_dataEnded s _
    | cons e es =>
      dsimp only
      rw [finishData_eq_dataEnded]
      rfl

/-- The outcome with the Command Engine's state replaced. -/
def withEngineState (x : EngineState) (r : State × ExecResult) : State × ExecResult := (r.1.setEngineState x, r.2)

theorem withEngineState_ite (x : EngineState) (p : Prop) [Decidable p] (a b : State × ExecResult) :
    withEngineState x (if p then a else b) = if p then withEngineState x a else withEngineState x b := apply_ite ..

section
variable (s : State) (x : EngineState)

theorem card?_setEngineState (n : Nat) : (s.setEngineState x).card? n = s.card? n := rfl
theorem account?_setEngineState (n : Nat) : (s.setEngineState x).account? n = s.account? n := rfl
theorem cabin?_setEngineState (n : Nat) : (s.setEngineState x).cabin? n = s.cabin? n := rfl

theorem applyCard_setEngineState (d : CardData) (presence : Option Nat) :
    (s.setEngineState x).applyCard d presence = withEngineState x (s.applyCard d presence) := by
  unfold State.applyCard
  rw [card?_setEngineState]
  cases s.card? d.number with
  | some e =>
    simp only [withEngineState_ite, rewriteCard_eq_cardRewritten]
    rfl
  | none =>
    cases readCarriedPresence presence with
    | none => rfl
    | some p => simp only [withEngineState_ite]; rfl

theorem offerCard_setEngineState (o : CardOffer) :
    offerCard (s.setEngineState x) o = withEngineState x (offerCard s o) := by
  unfold offerCard
  cases readCard o with
  | none => rfl
  | some d => exact applyCard_setEngineState s x d o.presence

theorem purgeCard_setEngineState (n : Nat) :
    purgeCard (s.setEngineState x) n = withEngineState x (purgeCard s n) := by
  unfold purgeCard
  rw [card?_setEngineState]
  cases s.card? n <;> simp only [withEngineState_ite] <;> rfl

theorem offerAccount_setEngineState (o : AccountOffer) :
    offerAccount (s.setEngineState x) o = withEngineState x (offerAccount s o) := by
  by_cases hread : ∃ st, readAccountState o.state = some st ∧ accountInRanges o
  · obtain ⟨st, hst, hin⟩ := hread
    simp only [offerAccount_of_inRanges hst hin, account?_setEngineState, withEngineState_ite]
    rfl
  · rw [offerAccount_of_unread hread, offerAccount_of_unread hread]
    rfl

theorem purgeAccount_setEngineState (n : Nat) :
    purgeAccount (s.setEngineState x) n = withEngineState x (purgeAccount s n) := by
  simp only [purgeAccount, withEngineState_ite]
  rfl

theorem offerCabin_setEngineState (o : CabinOffer) :
    offerCabin (s.setEngineState x) o = withEngineState x (offerCabin s o) := by
  unfold offerCabin
  cases readCabin o with
  | none => rfl
  | some d =>
    dsimp only
    rw [cabin?_setEngineState]
    cases s.cabin? d.number <;> simp only [withEngineState_ite] <;> rfl

theorem purgeCabin_setEngineState (n : Nat) :
    purgeCabin (s.setEngineState x) n = withEngineState x (purgeCabin s n) := by
  simp only [purgeCabin, withEngineState_ite]
  rfl

/-- No entry's settling reads or moves the state of the Command Engine. -/
theorem settleEntry_setEngineState (mode : LoadMode) (e : DataEntry) :
    settleEntry (s.setEngineState x) mode e = withEngineState x (settleEntry s mode e) := by
  have hoffer : offerEntry (s.setEngineState x) e = withEngineState x (offerEntry s e) := by
    cases e with
    | cardMerge o => exact offerCard_setEngineState s x o
    | cardPurge n => exact purgeCard_setEngineState s x n
    | accountMerge o => exact offerAccount_setEngineState s x o
    | accountPurge n => exact purgeAccount_setEngineState s x n
    | cabinMerge o => exact offerCabin_setEngineState s x o
    | cabinPurge n => exact purgeCabin_setEngineState s x n
  rw [settleEntry, settleEntry, withEngineState_ite, hoffer]
  rfl

end

/-- The first entry, then the others on the state it leaves. -/
theorem settledInOrder_cons (mode : LoadMode) (e : DataEntry) (es : List DataEntry) (s : State) :
    settledInOrder mode (e :: es) s =
      ((settledInOrder mode es (settleEntry s mode e).1).1,
        (settleEntry s mode e).2 :: (settledInOrder mode es (settleEntry s mode e).1).2) := by
  have hfrom : ∀ (es : List DataEntry) (s : State) (rs : List ExecResult),
      es.foldl (fun r e => let q := settleEntry r.1 mode e; (q.1, r.2 ++ [q.2])) (s, rs) =
        ((settledInOrder mode es s).1, rs ++ (settledInOrder mode es s).2) := by
    intro es
    induction es with
    | nil => intro s rs; simp [settledInOrder]
    | cons e es ih =>
      intro s rs
      have hfirst : settledInOrder mode (e :: es) s =
        (e :: es).foldl (fun r e => let q := settleEntry r.1 mode e; (q.1, r.2 ++ [q.2])) (s, []) := rfl
      rw [hfirst, List.foldl_cons, List.foldl_cons, ih, ih, List.nil_append, List.append_assoc]
  exact hfrom es _ _

theorem settledInOrder_setEngineState (mode : LoadMode) (x : EngineState) (es : List DataEntry) (s : State) :
    settledInOrder mode es (s.setEngineState x) =
      ((settledInOrder mode es s).1.setEngineState x, (settledInOrder mode es s).2) := by
  induction es generalizing s with
  | nil => rfl
  | cons e es ih =>
    simp only [settledInOrder_cons, settleEntry_setEngineState, withEngineState, ih]

theorem repeat_succ {α : Type} (f : α → α) (n : Nat) (x : α) : Nat.repeat f (n + 1) x = Nat.repeat f n (f x) := by
  induction n with
  | zero => rfl
  | succ n ih => exact congrArg f ih

/-- A Data frame with no claim between its entries is settled as the entries are in order (R161). -/
theorem entryTaken_repeated {tag : Nat} {mode : LoadMode} (es : List DataEntry) (hes : es ≠ []) (s : State)
    (results : List ExecResult) (hs : s.engine.state = .loading ⟨tag, mode, es, results⟩) :
    Nat.repeat entryTaken es.length s =
      dataEnded (settledInOrder mode es s).1 tag (results ++ (settledInOrder mode es s).2) := by
  induction es generalizing s results with
  | nil => exact absurd rfl hes
  | cons e es ih =>
    have htaken : entryTaken s =
        if es = [] then dataEnded (settleEntry s mode e).1 tag (results ++ [(settleEntry s mode e).2])
        else (settleEntry s mode e).1.setEngineState (.loading ⟨tag, mode, es, results ++ [(settleEntry s mode e).2]⟩) := by
      rw [entryTaken, hs]
      rfl
    rw [List.length_cons, repeat_succ, settledInOrder_cons, htaken]
    by_cases hlast : es = []
    · subst hlast
      rfl
    · rw [if_neg hlast, ih hlast _ _ rfl, settledInOrder_setEngineState, List.append_assoc]
      rfl

/-- Settles O22: the entries of the frame are taken one by one, and the bytes of the body by their readers. -/
theorem dataFramesSettleEntriesInOrder : Obligations.DataFramesSettleEntriesInOrder := by
  refine ⟨fun s tag body hs => ?_, fun s tag mode es hes hs => entryTaken_repeated es hes s [] hs,
    fun s mode e hdenied => ?_, fun table mode es hform => ⟨fun hlow hhigh => ⟨?_, fun more hmore => ?_⟩,
    fun n bs hn => readEntries_of_count hn table mode bs⟩⟩
  · refine congrArg Host.Outcome.next ((engineFrame_of_takes hs 2 0 tag _).trans ?_)
    dsimp only [State.takeData]
    cases hsession : (up s).engine.session with
    | none => exact answer_of_up (trunk_up_up s) ..
    | some x =>
      dsimp only
      cases readEntries x.table x.mode body with
      | none => exact reject_of_up (trunk_up_up s) ..
      | some es =>
        rw [← hsession]
        exact settleNext_eq_entryTaken _
  · rw [settleEntry, allows_eq_permitted]
    exact if_neg (Bool.eq_false_iff.1 hdenied)
  · exact readEntries_of_reads (reads_takeEntries hhigh hform) hlow hhigh
  · rw [readEntries, (reads_takeEntries hhigh hform).wholeBody_more hmore]

end Sys2Proof.Proofs

/-! PROOF. Trunk frames sent and read back (R176-R178, R182, R189). -/

namespace Sys2Proof.Proofs

open Sys2Proof.Machine Sys2Proof.Claims

/-! ## The check word (R177) -/

theorem checkHolds_iff (bs : List Byte) (w : Nat) : checkHolds bs w = true ↔ (byteSum bs + w) % 65536 = 0 :=
  beq_iff_eq

theorem checkWord_lt (bs : List Byte) : checkWord bs < 65536 := Nat.mod_lt _ (by decide)

theorem checkHolds_checkWord (bs : List Byte) : checkHolds bs (checkWord bs) = true := by
  rw [checkHolds_iff, checkWord]
  omega

theorem checkWord_unique {bs : List Byte} {w : Nat} (hw : w < 65536) (h : checkHolds bs w = true) :
    w = checkWord bs := by
  rw [checkHolds_iff] at h
  rw [checkWord]
  omega

/-- The sum moves with the byte that changes. -/
theorem byteSum_set {bs : List Byte} {i : Nat} (hi : i < bs.length) (b : Byte) :
    byteSum (bs.set i b) + bs[i].toNat = byteSum bs + b.toNat := by
  induction bs generalizing i with
  | nil => exact absurd hi (Nat.not_lt_zero i)
  | cons a bs ih =>
    cases i with
    | zero => simp only [byteSum, List.set_cons_zero, List.map_cons, List.sum_cons, List.getElem_cons_zero]; omega
    | succ i =>
      have hrest := ih (Nat.lt_of_succ_lt_succ hi)
      simp only [byteSum, List.set_cons_succ, List.map_cons, List.sum_cons, List.getElem_cons_succ] at hrest ⊢
      omega

/-- A frame in which one byte has changed fails the check. -/
theorem checkHolds_set {bs : List Byte} {i : Nat} {b : Byte} (hi : i < bs.length) (hb : bs[i]? ≠ some b) :
    checkHolds (bs.set i b) (checkWord bs) = false := by
  have hne : bs[i].toNat ≠ b.toNat := fun h =>
    hb ((List.getElem?_eq_getElem hi).trans (congrArg some (BitVec.eq_of_toNat_eq h)))
  have hsum := byteSum_set hi b
  have hgood := (checkHolds_iff ..).1 (checkHolds_checkWord bs)
  have hold := bs[i].isLt
  have hnew := b.isLt
  rw [← Bool.not_eq_true, checkHolds_iff]
  omega

/-! ## Frames found by the receiver (R176) -/

@[simp] theorem length_numBytes (w n : Nat) : (numBytes w n).length = w := by
  induction w with
  | zero => rfl
  | succ w ih => rw [numBytes, List.length_cons, ih]

@[simp] theorem length_oneByte (n : Nat) : (oneByte n).length = 1 := rfl

section
variable {w v u t a b c d : Nat}

theorem reads_take1 {β : Type} (f : Nat → β) (ha : a < 256 ^ w) : Reads (take1 w f) (numBytes w a) (f a) :=
  (reads_takeNat ha).andPure f

theorem reads_take2 {β : Type} (f : Nat → Nat → β) (ha : a < 256 ^ w) (hb : b < 256 ^ v) :
    Reads (take2 w v f) (numBytes w a ++ numBytes v b) (f a b) :=
  (reads_takeNat ha).andThen (reads_take1 (f a) hb)

theorem reads_take3 {β : Type} (f : Nat → Nat → Nat → β) (ha : a < 256 ^ w) (hb : b < 256 ^ v) (hc : c < 256 ^ u) :
    Reads (take3 w v u f) (numBytes w a ++ (numBytes v b ++ numBytes u c)) (f a b c) :=
  (reads_takeNat ha).andThen (reads_take2 (f a) hb hc)

theorem reads_take4 {β : Type} (f : Nat → Nat → Nat → Nat → β) (ha : a < 256 ^ w) (hb : b < 256 ^ v)
    (hc : c < 256 ^ u) (hd : d < 256 ^ t) :
    Reads (take4 w v u t f) (numBytes w a ++ (numBytes v b ++ (numBytes u c ++ numBytes t d))) (f a b c d) :=
  (reads_takeNat ha).andThen (reads_take3 (f a) hb hc hd)

end

/-- A frame behind its Length, with its check word, is complete. -/
theorem framingOf_complete {cls kind tag : Nat} (hcls : cls < 256) (hkind : kind < 256) (htag : tag < 65536)
    (lengthBytes body rest : List Byte) :
    let frame := numBytes 1 cls ++ (numBytes 1 kind ++ numBytes 2 tag) ++ body
    framingOf lengthBytes (body.length + 4) (frame ++ (numBytes 2 (checkWord (lengthBytes ++ frame)) ++ rest)) =
      .complete cls kind tag body true rest := by
  intro frame
  have hlength : frame.length = body.length + 4 := by simp [frame]; omega
  have hhead : take3 1 1 2 (fun c k t => (c, k, t)) frame = some ((cls, kind, tag), body) :=
    reads_take3 (fun c k t => (c, k, t)) (w := 1) (v := 1) (u := 2) hcls hkind htag body
  have hcheck := reads_takeNat (w := 2) (checkWord_lt (lengthBytes ++ frame)) rest
  rw [framingOf, if_neg (by simp [hlength]; omega), ← hlength, List.take_left, List.drop_left]
  dsimp only
  rw [hhead, hcheck]
  exact congrArg (Framing.complete cls kind tag body · rest) (checkHolds_checkWord _)

/-- A frame sent is found complete with a correct check word, and the bytes after it are left. -/
theorem framing_trunkFrame {cls kind tag : Nat} (hcls : cls < 256) (hkind : kind < 256) (htag : tag < 65536)
    {body : List Byte} (hbody : body.length ≤ 1024) (rest : List Byte) (silence : Nat) :
    framing silence (trunkFrame cls kind tag body ++ rest) = .complete cls kind tag body true rest := by
  have hcomplete := framingOf_complete hcls hkind htag (numBytes 2 (body.length + 4)) body rest
  have hvalue : (BitVec.ofNat 8 ((body.length + 4) / 256 ^ 1)).toNat * 256
      + (BitVec.ofNat 8 ((body.length + 4) / 256 ^ 0)).toNat = body.length + 4 := by
    simp only [BitVec.toNat_ofNat]
    omega
  have hlength : readableLength (body.length + 4) = true := (inRange_eq_true_iff ..).2 (by omega)
  simp only [trunkFrame, numBytes, oneByte, List.cons_append, List.nil_append, List.append_assoc, framing, hvalue,
    hlength, if_true] at hcomplete ⊢
  exact hcomplete

/-! ## The bodies of the frames taken (R182, R190) -/

/-- The body of a Command that is well formed is read as the Command. -/
theorem reads_takeCommand {c : Instr} {kind tag : Nat} (h : c.wellFormed = true)
    (hframe : engineFrameOf c = some (1, kind, tag)) : Reads (takeCommand tag kind) (frameBody c) c := by
  cases c <;> cases hframe
  all_goals simp only [Instr.wellFormed, ProfileOffer.fits, Bool.and_eq_true, fits_iff, optFits_iff, decide_eq_true_eq,
    List.all_eq_true, Option.all_eq_true] at h
  case clockSet time => exact (reads_takeTime h.2).andPure _
  case portCallOpen time => exact (reads_takeTime h.2).andPure _
  case profileSet o =>
    obtain ⟨-, ⟨⟨⟨⟨⟨⟨⟨⟨⟨⟨⟨hopen, hgrace⟩, hhold⟩, hlimit⟩, hconfirm⟩, hreferral⟩, hrepeat⟩, hmiss⟩, hgap⟩, hhour⟩, hcount⟩,
      hopening⟩, hpassage⟩ := h
    simp only [frameBody, profileOfferBytes, List.append_assoc]
    refine Reads.andPure (r := takeProfile) ?_ (Instr.profileSet tag)
    exact (reads_byte hopen).andThen <| (reads_byte hgrace).andThen <| (reads_takeNat hhold).andThen <|
      (reads_byte hlimit).andThen <| (reads_byte hconfirm).andThen <| (reads_byte hreferral).andThen <|
      (reads_byte hrepeat).andThen <| (reads_byte hmiss).andThen <| (reads_byte hgap).andThen <|
      (reads_byte hhour).andThen <| (reads_byte hcount).andThen <| (reads_byte hopening).andThen <|
      (reads_byte hpassage).andPure _
  case lineSettings l sp r i =>
    obtain ⟨⟨⟨⟨-, hline⟩, hspeed⟩, hreply⟩, hsettle⟩ := h
    simp only [frameBody, List.append_assoc]
    exact reads_take4 _ hline hspeed hreply hsettle
  case lineTestStart l => exact reads_take1 _ h.2
  case lineTestEnd l => exact reads_take1 _ h.2
  case stationEnroll l a k d =>
    obtain ⟨⟨⟨⟨-, hline⟩, haddr⟩, hkind⟩, hdata⟩ := h
    simp only [frameBody, List.append_assoc]
    rw [← List.append_assoc (oneByte a), ← List.append_assoc (oneByte l)]
    exact (reads_take3 _ hline haddr hkind).andThen ((reads_takeOpt fun n hn => reads_byte (hdata n hn)).andPure _)
  case stationRemove l a =>
    obtain ⟨⟨-, hline⟩, haddr⟩ := h
    exact reads_take2 _ hline haddr
  case vesselCodesSet a b c d =>
    obtain ⟨⟨⟨⟨-, ha⟩, hb⟩, hc⟩, hd⟩ := h
    simp only [frameBody, List.append_assoc]
    exact reads_take4 _ ha hb hc hd
  case loadOpen a m =>
    obtain ⟨⟨-, htable⟩, hmode⟩ := h
    exact reads_take2 _ htable hmode
  case entryRead a k =>
    obtain ⟨⟨-, htable⟩, hkey⟩ := h
    have hkey : k < 256 ^ keyWidth a := by
      unfold keyWidth
      split at hkey
      case isTrue ha => rwa [if_pos ha, ← fits_iff]
      case isFalse ha => rwa [if_neg ha, ← fits_iff]
    exact (reads_byte htable).andThen (reads_take1 _ hkey)
  case accountWrite a s v d =>
    obtain ⟨⟨⟨⟨-, haccount⟩, hstate⟩, hvoyage⟩, hdaily⟩ := h
    simp only [frameBody, List.append_assoc]
    exact (reads_takeNat haccount).andThen <| (reads_takeOpt fun n hn => reads_byte (hstate n hn)).andThen <|
      (reads_takeOpt fun n hn => reads_takeNat (hvoyage n hn)).andThen <|
      (reads_takeOpt fun n hn => reads_takeNat (hdaily n hn)).andPure _
  case cabinWrite n l w m =>
    obtain ⟨⟨⟨⟨-, hcabin⟩, hlock⟩, hwatch⟩, htamper⟩ := h
    simp only [frameBody, List.append_assoc]
    exact (reads_takeNat hcabin).andThen <| (reads_takeOpt fun n hn => reads_byte (hlock n hn)).andThen <|
      (reads_takeOpt fun x hx => (reads_byte (hwatch x hx).1).pair (reads_byte (hwatch x hx).2)).andThen <|
      (reads_takeOpt fun n hn => reads_byte (htamper n hn)).andPure _
  case presenceSet card p s =>
    obtain ⟨⟨⟨-, hcard⟩, hpresence⟩, hstamp⟩ := h
    simp only [frameBody, List.append_assoc]
    exact reads_take3 _ hcard hpresence hstamp
  case journalRead start count =>
    obtain ⟨⟨-, hstart⟩, hcount⟩ := h
    exact reads_take2 _ hstart hcount
  case journalRelease n => exact reads_take1 _ h.2
  case ashoreRead n => exact reads_take1 _ h.2
  case musterStart o => exact reads_take1 _ h.2
  case unaccountedRead n => exact reads_take1 _ h.2
  case alarmConfig i m =>
    obtain ⟨⟨-, hinput⟩, hmode⟩ := h
    exact reads_take2 _ hinput hmode
  case eventRead n => exact reads_take1 _ h.2
  case eventKinds vs =>
    obtain ⟨⟨-, hcount⟩, hvalues⟩ := h
    have hmany := reads_takeMany (r := takeNat 1) fun v hv => reads_byte (hvalues v hv)
    rw [hcount] at hmany
    exact hmany.andPure _
  case protectionSet a b c r =>
    obtain ⟨⟨⟨⟨-, ha⟩, hb⟩, hc⟩, hrange⟩ := h
    simp only [frameBody, List.append_assoc]
    rw [← List.append_assoc (oneByte b), ← List.append_assoc (oneByte a)]
    exact (reads_take3 _ ha hb hc).andThen
      ((reads_takeOpt fun x hx => (reads_takeNat (hrange x hx).1).pair (reads_takeNat (hrange x hx).2)).andPure _)
  case restart o => exact reads_take1 _ h.2
  all_goals exact reads_pure _

theorem reads_takeVerdictOf (v : AnswerVerdict) :
    Reads takeVerdictOf (oneByte (match v with | .grant => 1 | .refuse => 2)) v := by
  cases v with
  | grant => exact (reads_byte (n := 1) (by decide)).andThen (reads_pure AnswerVerdict.grant)
  | refuse => exact (reads_byte (n := 2) (by decide)).andThen (reads_pure AnswerVerdict.refuse)

/-- The kinds of Command are 1 to 34 (R182). -/
theorem kind_of_command {c : Instr} {kind tag : Nat} (hframe : engineFrameOf c = some (1, kind, tag)) :
    1 ≤ kind ∧ kind ≤ 34 := by
  cases c <;> cases hframe <;> decide

/-- The frames taken: a Command, a Data frame, an Answer or a Through-down frame (R178). -/
theorem frameOf_cases {c : Instr} {cls kind tag : Nat} (hframe : frameOf c = some (cls, kind, tag)) :
    cls = 1 ∧ engineFrameOf c = some (1, kind, tag) ∨ cls = 2 ∧ kind = 0 ∧ (∃ body, c = .dataFrame tag body) ∨
      cls = 5 ∧ kind = 0 ∧ (∃ v e, c = .answerFrame tag v e) ∨
      cls = 6 ∧ kind = 0 ∧ ∃ l a data, c = .throughDown tag l a data := by
  cases c <;> cases hframe
  case dataFrame body => exact .inr (.inl ⟨rfl, rfl, body, rfl⟩)
  case answerFrame v e => exact .inr (.inr (.inl ⟨rfl, rfl, v, e, rfl⟩))
  case throughDown l a data => exact .inr (.inr (.inr ⟨rfl, rfl, l, a, data, rfl⟩))
  all_goals exact .inl ⟨rfl, rfl⟩

/-- A frame with a correct check word is read as its row (R178). -/
theorem readFrame_frameBody {c : Instr} {cls kind tag : Nat} (h : c.wellFormed = true)
    (hframe : frameOf c = some (cls, kind, tag)) : readFrame cls kind tag (frameBody c) = c := by
  rcases frameOf_cases hframe with ⟨rfl, hcommand⟩ | ⟨rfl, rfl, body, rfl⟩ | ⟨rfl, rfl, v, e, rfl⟩ |
    ⟨rfl, rfl, l, a, data, rfl⟩
  · rw [readFrame, if_neg (by decide), if_pos rfl, if_pos (kind_of_command hcommand),
      (reads_takeCommand h hcommand).wholeBody]
    rfl
  · rfl
  · simp only [Instr.wellFormed, Bool.and_eq_true, Option.all_eq_true] at h
    have hbody : Reads (takeAnswerBody tag) (frameBody (.answerFrame tag v e)) (.answerFrame tag v e) :=
      (reads_takeVerdictOf v).andThen ((reads_takeOpt fun o ho => reads_takeCard (h.2 o ho)).andPure _)
    exact congrArg (orMalformed 5 0 tag) hbody.wholeBody
  · simp only [Instr.wellFormed, Bool.and_eq_true, fits_iff] at h
    obtain ⟨⟨⟨-, hline⟩, haddr⟩, -⟩ := h
    have hread : readThroughDown tag (frameBody (.throughDown tag l a data)) = some (.throughDown tag l a data) := by
      rw [readThroughDown, frameBody, oneByte, oneByte, reads_take2 (fun l a => (l, a)) hline haddr data]
    exact congrArg (orMalformed 6 0 tag) hread

/-! ## The length of a body -/

theorem length_optBytes_le {α : Type} {f : α → List Byte} {n : Nat} (h : ∀ x, (f x).length ≤ n) (o : Option α) :
    (optBytes f o).length ≤ n + 1 := by
  cases o with
  | none => simp [optBytes]
  | some x =>
    rw [optBytes, List.length_append, length_oneByte, Nat.add_comm]
    exact Nat.add_le_add_right (h x) 1

theorem length_flatMap_numBytes (w : Nat) (ns : List Nat) : (ns.flatMap (numBytes w)).length = ns.length * w := by
  simp [List.length_flatMap]

theorem length_dateBytes (t : DateTime) : (dateBytes t).length = 7 := rfl

theorem length_cardOfferBytes_le {o : CardOffer} (h : o.fits = true) : (cardOfferBytes o).length ≤ 800 := by
  simp only [CardOffer.fits, Bool.and_eq_true, countFits, decide_eq_true_eq] at h
  obtain ⟨⟨⟨⟨⟨⟨⟨⟨-, hcabins⟩, -⟩, hzones⟩, -⟩, -⟩, -⟩, -⟩, -⟩ := h
  have haccount := length_optBytes_le (f := numBytes 3) (fun n => (length_numBytes 3 n).le) o.account
  have hwindow := length_optBytes_le (f := fun w : DateTime × DateTime => dateBytes w.1 ++ dateBytes w.2) (n := 14)
    (fun w => by simp [length_dateBytes]) o.window
  have hpresence := length_optBytes_le (f := oneByte) (fun n => (length_oneByte n).le) o.presence
  have hz : (o.zones.flatMap oneByte).length = o.zones.length * 1 := length_flatMap_numBytes 1 o.zones
  simp only [cardOfferBytes, List.length_append, length_numBytes, length_oneByte, length_flatMap_numBytes, hz]
  omega

/-- Class, kind and tag of a frame fit their fields (R189). -/
theorem frame_fits {c : Instr} {cls kind tag : Nat} (h : c.wellFormed = true)
    (hframe : frameOf c = some (cls, kind, tag)) : cls < 256 ∧ kind < 256 ∧ tag < 65536 := by
  cases c <;> cases hframe
  all_goals simp only [Instr.wellFormed, Bool.and_eq_true, fits_iff] at h
  all_goals omega

/-- The body of a frame is 1,024 bytes at most (R189). -/
theorem length_frameBody_le {c : Instr} {cls kind tag : Nat} (h : c.wellFormed = true)
    (hframe : frameOf c = some (cls, kind, tag)) : (frameBody c).length ≤ 1024 := by
  cases c <;> cases hframe
  all_goals simp only [Instr.wellFormed, Bool.and_eq_true, decide_eq_true_eq, Option.all_eq_true] at h
  case answerFrame v e =>
    have hentry : (optBytes cardOfferBytes e).length ≤ 801 := by
      cases e with
      | none => simp [optBytes]
      | some o =>
        have hcard := length_cardOfferBytes_le (h.2 o rfl)
        rw [optBytes, List.length_append, length_oneByte]
        omega
    simp only [frameBody, List.length_append, length_oneByte]
    omega
  case stationEnroll l a k d =>
    have hdata := length_optBytes_le (fun n => (length_oneByte n).le) d
    simp only [frameBody, List.length_append, length_oneByte]
    omega
  case entryRead a k =>
    simp only [frameBody, List.length_append, length_numBytes, length_oneByte]
    split <;> omega
  case accountWrite a s v d =>
    have hstate := length_optBytes_le (fun n => (length_oneByte n).le) s
    have hvoyage := length_optBytes_le (fun n => (length_numBytes 4 n).le) v
    have hdaily := length_optBytes_le (fun n => (length_numBytes 4 n).le) d
    simp only [frameBody, List.length_append, length_numBytes]
    omega
  case cabinWrite n l w m =>
    have hlock := length_optBytes_le (fun n => (length_oneByte n).le) l
    have hwatch := length_optBytes_le (f := fun x : Nat × Nat => oneByte x.1 ++ oneByte x.2) (n := 2)
      (fun x => by simp) w
    have htamper := length_optBytes_le (fun n => (length_oneByte n).le) m
    simp only [frameBody, List.length_append, length_numBytes]
    omega
  case protectionSet a b c r =>
    have hrange := length_optBytes_le (f := fun x : Nat × Nat => numBytes 3 x.1 ++ numBytes 3 x.2) (n := 6)
      (fun x => by simp) r
    simp only [frameBody, List.length_append, length_oneByte]
    omega
  case eventKinds vs =>
    have hvalues : (vs.flatMap oneByte).length = vs.length * 1 := length_flatMap_numBytes 1 vs
    rw [frameBody, hvalues]
    omega
  case dataFrame body => exact h.2
  case throughDown l a data =>
    have hdata := h.2
    simp only [frameBody, List.length_append, length_oneByte]
    omega
  all_goals
    simp only [frameBody, profileOfferBytes, dateBytes, List.length_append, length_numBytes, length_oneByte,
      List.length_nil]
  all_goals omega

/-- Settles O34: the frame is found by its Length, and its body is read by the reader of its kind. -/
theorem trunkFramesAreReadBack : Obligations.TrunkFramesAreReadBack := by
  refine ⟨fun c cls kind tag rest silence h hframe => ⟨?_, readFrame_frameBody h hframe⟩, fun bs =>
    ⟨checkWord_lt bs, checkHolds_checkWord bs, fun w => checkHolds_iff bs w, fun w => checkWord_unique,
      fun i b => checkHolds_set⟩⟩
  obtain ⟨hcls, hkind, htag⟩ := frame_fits h hframe
  exact framing_trunkFrame hcls hkind htag (length_frameBody_le h hframe) rest silence

end Sys2Proof.Proofs

/-! PROOF. Replies of a reader line sent and read back, and bytes that are no Reply (R191). -/

namespace Sys2Proof.Proofs

open Sys2Proof.Machine Sys2Proof.Claims

/-! ## What was read, from what the reader answers -/

/-- The bytes of a number are those of its lowest part. -/
theorem numBytes_add_mul (w a n : Nat) : numBytes w (a * 256 ^ w + n) = numBytes w n := by
  induction w generalizing a with
  | zero => rfl
  | succ w ih =>
    have hpow : a * 256 ^ (w + 1) + n = (a * 256) * 256 ^ w + n := by rw [Nat.pow_succ, Nat.mul_comm (256 ^ w), Nat.mul_assoc]
    have hdiv : (a * 256 * 256 ^ w + n) / 256 ^ w = a * 256 + n / 256 ^ w := by
      rw [Nat.add_comm, Nat.add_mul_div_right _ _ (Nat.pow_pos (by decide)), Nat.add_comm]
    have hbyte : BitVec.ofNat 8 (a * 256 + n / 256 ^ w) = BitVec.ofNat 8 (n / 256 ^ w) := by
      apply BitVec.eq_of_toNat_eq
      rw [BitVec.toNat_ofNat, BitVec.toNat_ofNat, Nat.mul_add_mod_self_right]
    rw [hpow, numBytes, numBytes, hdiv, hbyte, ih]

/-- A number read stood in the bytes in its width. -/
theorem takeNat_eq_some : ∀ {w v : Nat} {bs rest : List Byte}, takeNat w bs = some (v, rest) →
    bs = numBytes w v ++ rest ∧ v < 256 ^ w
  | 0, v, bs, rest, h => by
    cases h
    exact ⟨rfl, Nat.one_pos⟩
  | w + 1, v, [], rest, h => nomatch h
  | w + 1, v, b :: bs, rest, h => by
    simp only [takeNat] at h
    split at h
    case h_2 => exact nomatch h
    case h_1 low after hlow =>
      cases h
      obtain ⟨rfl, hlt⟩ := takeNat_eq_some hlow
      have hhigh : (b.toNat * 256 ^ w + low) / 256 ^ w = b.toNat := by
        rw [Nat.add_comm, Nat.add_mul_div_right _ _ (Nat.pow_pos (by decide)), Nat.div_eq_of_lt hlt, Nat.zero_add]
      have hb : b.toNat + 1 ≤ 256 := b.isLt
      refine ⟨?_, ?_⟩
      · rw [numBytes, hhigh, numBytes_add_mul, BitVec.ofNat_toNat, BitVec.setWidth_eq, List.cons_append]
      · calc b.toNat * 256 ^ w + low < (b.toNat + 1) * 256 ^ w := by rw [Nat.add_mul]; omega
          _ ≤ 256 * 256 ^ w := Nat.mul_le_mul_right _ hb
          _ = 256 ^ (w + 1) := by rw [Nat.pow_succ, Nat.mul_comm]

/-- A field that was read, and what was read behind it. -/
theorem takeThen_eq_some {α β : Type} {r : Reader α} {f : α → Reader β} {bs rest : List Byte} {y : β}
    (h : takeThen r f bs = some (y, rest)) : ∃ x mid, r bs = some (x, mid) ∧ f x mid = some (y, rest) := by
  unfold takeThen at h
  split at h
  case h_1 x mid hx => exact ⟨x, mid, hx, h⟩
  case h_2 => exact nomatch h

theorem take1_eq_some {β : Type} {w : Nat} {f : Nat → β} {bs rest : List Byte} {y : β}
    (h : take1 w f bs = some (y, rest)) : ∃ a, a < 256 ^ w ∧ y = f a ∧ bs = numBytes w a ++ rest := by
  obtain ⟨a, mid, ha, hrest⟩ := takeThen_eq_some h
  cases hrest
  obtain ⟨rfl, hlt⟩ := takeNat_eq_some ha
  exact ⟨a, hlt, rfl, rfl⟩

theorem take2_eq_some {β : Type} {w v : Nat} {f : Nat → Nat → β} {bs rest : List Byte} {y : β}
    (h : take2 w v f bs = some (y, rest)) :
    ∃ a b, a < 256 ^ w ∧ b < 256 ^ v ∧ y = f a b ∧ bs = numBytes w a ++ (numBytes v b ++ rest) := by
  obtain ⟨a, mid, ha, hrest⟩ := takeThen_eq_some h
  obtain ⟨rfl, hlt⟩ := takeNat_eq_some ha
  obtain ⟨b, hb, rfl, rfl⟩ := take1_eq_some hrest
  exact ⟨a, b, hlt, hb, rfl, rfl⟩

theorem take3_eq_some {β : Type} {w v u : Nat} {f : Nat → Nat → Nat → β} {bs rest : List Byte} {y : β}
    (h : take3 w v u f bs = some (y, rest)) :
    ∃ a b c, a < 256 ^ w ∧ b < 256 ^ v ∧ c < 256 ^ u ∧ y = f a b c ∧
      bs = numBytes w a ++ (numBytes v b ++ (numBytes u c ++ rest)) := by
  obtain ⟨a, mid, ha, hrest⟩ := takeThen_eq_some h
  obtain ⟨rfl, hlt⟩ := takeNat_eq_some ha
  obtain ⟨b, c, hb, hc, rfl, rfl⟩ := take2_eq_some hrest
  exact ⟨a, b, c, hlt, hb, hc, rfl, rfl⟩

theorem take4_eq_some {β : Type} {w v u t : Nat} {f : Nat → Nat → Nat → Nat → β} {bs rest : List Byte} {y : β}
    (h : take4 w v u t f bs = some (y, rest)) :
    ∃ a b c d, a < 256 ^ w ∧ b < 256 ^ v ∧ c < 256 ^ u ∧ d < 256 ^ t ∧ y = f a b c d ∧
      bs = numBytes w a ++ (numBytes v b ++ (numBytes u c ++ (numBytes t d ++ rest))) := by
  obtain ⟨a, mid, ha, hrest⟩ := takeThen_eq_some h
  obtain ⟨rfl, hlt⟩ := takeNat_eq_some ha
  obtain ⟨b, c, d, hb, hc, hd, rfl, rfl⟩ := take3_eq_some hrest
  exact ⟨a, b, c, d, hlt, hb, hc, hd, rfl, rfl⟩

/-! ## Request records (R191) -/

/-- A request record that fits its fields is read as it was sent. -/
theorem reads_takeRequestRecord {q : Request} (h : q.fits = true) :
    Reads takeRequestRecord (requestBytes q) q := by
  cases q with
  | presentation v c i p =>
    simp only [Request.fits, Bool.and_eq_true, fits_iff] at h
    obtain ⟨⟨⟨hv, hc⟩, hi⟩, hp⟩ := h
    simp only [requestBytes, List.append_assoc]
    refine (reads_byte (n := 1) (by decide)).andThen <| (reads_takeNat hv).andThen <| (reads_takeNat hc).andThen <|
      (reads_byte hi).andThen ?_
    cases p with
    | none => exact (reads_byte (n := 0) (by decide)).andThen (reads_pure _)
    | gesture g =>
      exact (reads_byte (n := 1) (by decide)).andThen (reads_take1 _ ((fits_iff ..).1 hp))
    | sale a g r =>
      simp only [KindPart.fits, Bool.and_eq_true, fits_iff] at hp
      obtain ⟨⟨ha, hg⟩, hr⟩ := hp
      exact (reads_byte (n := 2) (by decide)).andThen (reads_take3 _ ha hg hr)
    | direction d =>
      exact (reads_byte (n := 3) (by decide)).andThen (reads_take1 _ ((fits_iff ..).1 hp))
  | complete tag a =>
    simp only [Request.fits, Bool.and_eq_true, fits_iff] at h
    simp only [requestBytes, List.append_assoc]
    exact (reads_byte (n := 2) (by decide)).andThen (reads_take2 _ h.1 h.2)
  | cancel tag => exact (reads_byte (n := 3) (by decide)).andThen (reads_take1 _ ((fits_iff ..).1 h))
  | passageReport o => exact (reads_byte (n := 4) (by decide)).andThen (reads_take1 _ ((fits_iff ..).1 h))

/-- The bytes read for a request record are those of the request, which fits its fields. -/
theorem takeRequestRecord_eq_some {q : Request} {bs rest : List Byte} (h : takeRequestRecord bs = some (q, rest)) :
    q.fits = true ∧ bs = requestBytes q ++ rest := by
  obtain ⟨type, afterType, hread, hrecord⟩ := takeThen_eq_some h
  obtain ⟨rfl, -⟩ := takeNat_eq_some hread
  split at hrecord
  case isTrue htype =>
    subst htype
    obtain ⟨v, behindVessel, hv, hbehindVessel⟩ := takeThen_eq_some hrecord
    obtain ⟨rfl, hvessel⟩ := takeNat_eq_some hv
    obtain ⟨c, behindCard, hc, hbehindCard⟩ := takeThen_eq_some hbehindVessel
    obtain ⟨rfl, hcard⟩ := takeNat_eq_some hc
    obtain ⟨i, behindIssue, hi, hbehindIssue⟩ := takeThen_eq_some hbehindCard
    obtain ⟨rfl, hissue⟩ := takeNat_eq_some hi
    obtain ⟨part, behindPart, hp, hafter⟩ := takeThen_eq_some hbehindIssue
    obtain ⟨rfl, -⟩ := takeNat_eq_some hp
    have hfits : ∀ p : KindPart, p.fits = true → (Request.presentation v c i p).fits = true := fun p hp => by
      simp only [Request.fits, Bool.and_eq_true, fits_iff]
      exact ⟨⟨⟨hvessel, hcard⟩, hissue⟩, hp⟩
    split at hafter
    case isTrue hpart =>
      subst hpart
      cases hafter
      exact ⟨hfits _ rfl, by simp only [requestBytes, List.append_assoc]; rfl⟩
    case isFalse =>
    split at hafter
    case isTrue hpart =>
      subst hpart
      obtain ⟨g, hg, rfl, rfl⟩ := take1_eq_some hafter
      exact ⟨hfits _ ((fits_iff ..).2 hg), by simp only [requestBytes, List.append_assoc]; rfl⟩
    case isFalse =>
    split at hafter
    case isTrue hpart =>
      subst hpart
      obtain ⟨a, g, r, ha, hg, hr, rfl, rfl⟩ := take3_eq_some hafter
      refine ⟨hfits _ ?_, by simp only [requestBytes, List.append_assoc]; rfl⟩
      simp only [KindPart.fits, Bool.and_eq_true, fits_iff]
      exact ⟨⟨ha, hg⟩, hr⟩
    case isFalse =>
    split at hafter
    case isTrue hpart =>
      subst hpart
      obtain ⟨d, hd, rfl, rfl⟩ := take1_eq_some hafter
      exact ⟨hfits _ ((fits_iff ..).2 hd), by simp only [requestBytes, List.append_assoc]; rfl⟩
    case isFalse => exact nomatch hafter
  case isFalse =>
  split at hrecord
  case isTrue htype =>
    subst htype
    obtain ⟨tag, a, htag, ha, rfl, rfl⟩ := take2_eq_some hrecord
    refine ⟨?_, by simp only [requestBytes, List.append_assoc]; rfl⟩
    simp only [Request.fits, Bool.and_eq_true, fits_iff]
    exact ⟨htag, ha⟩
  case isFalse =>
  split at hrecord
  case isTrue htype =>
    subst htype
    obtain ⟨tag, htag, rfl, rfl⟩ := take1_eq_some hrecord
    exact ⟨(fits_iff ..).2 htag, rfl⟩
  case isFalse =>
  split at hrecord
  case isTrue htype =>
    subst htype
    obtain ⟨o, ho, rfl, rfl⟩ := take1_eq_some hrecord
    exact ⟨(fits_iff ..).2 ho, rfl⟩
  case isFalse => exact nomatch hrecord

/-- A whole body read is the bytes read. -/
theorem wholeBody_eq_some {α : Type} {r : Reader α} {bs : List Byte} {x : α} (h : wholeBody r bs = some x) :
    r bs = some (x, []) := by
  unfold wholeBody at h
  split at h
  case h_1 y hy => cases h; exact hy
  case h_2 => exact nomatch h

/-! ## Replies (R191) -/

theorem length_requestBytes_le {q : Request} : (requestBytes q).length ≤ 64 := by
  cases q with
  | presentation v c i p => cases p <;> simp [requestBytes]
  | complete tag a => simp [requestBytes]
  | cancel tag => simp [requestBytes]
  | passageReport o => simp [requestBytes]

/-- The content of a Reply is 64 bytes at most (R191). -/
theorem length_contentOfKind_le {kind : Nat} {content : List Byte} (h : contentOfKind kind content) :
    content.length ≤ 64 := by
  rcases h with ⟨-, rfl⟩ | ⟨-, q, -, rfl⟩ | ⟨-, -, h⟩ | ⟨-, h⟩
  · exact Nat.zero_le 64
  · exact length_requestBytes_le
  · exact h
  · omega

/-- The counted bytes of a Reply: what its check word is over. -/
def replyCounted (addr kind number sensor : Nat) (content : List Byte) : List Byte :=
  oneByte addr ++ (oneByte kind ++ (oneByte number ++ (oneByte sensor ++ (oneByte content.length ++ content))))

theorem replyBytes_eq (addr kind number sensor : Nat) (content : List Byte) :
    replyBytes addr kind number (oneByte sensor) content =
      replyCounted addr kind number sensor content ++ numBytes 2 (checkWord (replyCounted addr kind number sensor content)) := by
  simp only [replyBytes, replyCounted, List.append_assoc]

theorem length_replyCounted (addr kind number sensor : Nat) (content : List Byte) :
    (replyCounted addr kind number sensor content).length = 5 + content.length := by
  simp only [replyCounted, List.length_append, length_oneByte]
  omega

/-- A Reply sent is read by its kind and content. -/
theorem readReply_replyBytes {addr kind number sensor : Nat} {content : List Byte} (haddr : addr < 256)
    (hkind : kind < 256) (hnumber : number < 256) (hsensor : sensor < 256) (hcontent : content.length ≤ 64)
    (line : LineNo) :
    readReply line (replyBytes addr kind number (oneByte sensor) content) =
      replyOf { line := line, addr := addr } kind number sensor content := by
  have hhead := (reads_take4 (w := 1) (v := 1) (u := 1) (t := 1) (fun a k n x => (a, k, n, x)) haddr hkind hnumber
    hsensor).andThen (f := fun h => take1 1 fun len => (h, len))
    (reads_take1 (w := 1) (fun len => ((addr, kind, number, sensor), len)) (Nat.lt_of_le_of_lt hcontent (by decide)))
  have hcheck := reads_takeNat (w := 2) (checkWord_lt (replyCounted addr kind number sensor content)) []
  have hread := hhead (content ++ numBytes 2 (checkWord (replyCounted addr kind number sensor content)))
  have hbytes : replyBytes addr kind number (oneByte sensor) content =
      numBytes 1 addr ++ (numBytes 1 kind ++ (numBytes 1 number ++ numBytes 1 sensor)) ++ numBytes 1 content.length ++
        (content ++ numBytes 2 (checkWord (replyCounted addr kind number sensor content))) := by
    rw [replyBytes_eq]
    generalize checkWord _ = check
    simp only [replyCounted, oneByte, List.append_assoc]
  have hover : checkHolds ((replyBytes addr kind number (oneByte sensor) content).take (5 + content.length))
      (checkWord (replyCounted addr kind number sensor content)) = true := by
    rw [replyBytes_eq, ← length_replyCounted addr kind number sensor content, List.take_left]
    exact checkHolds_checkWord _
  rw [List.append_nil] at hcheck
  rw [← hbytes] at hread
  rw [readReply, hread]
  dsimp only
  rw [List.drop_left, List.take_left, hcheck]
  exact if_pos ⟨hcontent, hover⟩

theorem sensorsOf_sensorByte (word : Sensors) :
    ∃ n, n < 256 ∧ sensorByte word = oneByte n ∧ sensorsOf n = word := by
  refine ⟨_, ?_, rfl, ?_⟩ <;> obtain ⟨leaf, bolt, knob, cover⟩ := word <;> revert leaf bolt knob cover <;> decide

/-- A row other than the bad Reply comes from a content of its kind (R191). -/
theorem replyOf_eq_badReply {kind : Nat} {content : List Byte} (h : ¬contentOfKind kind content) (st : Station)
    (number sensor : Nat) : replyOf st kind number sensor content = .badReply st.line := by
  unfold replyOf
  split
  case isTrue hkind => exact if_neg fun hempty => h (.inl ⟨.inl hkind, hempty⟩)
  case isFalse =>
  split
  case isTrue hkind =>
    split
    case h_1 q hq =>
      obtain ⟨hfits, hbytes⟩ := takeRequestRecord_eq_some (wholeBody_eq_some hq)
      rw [List.append_nil] at hbytes
      exact absurd (.inr (.inl ⟨hkind, q, hfits, hbytes⟩)) h
    case h_2 => rfl
  case isFalse =>
  split
  case isTrue hkind => exact if_neg fun hempty => h (.inl ⟨.inr hkind, hempty⟩)
  case isFalse =>
  split
  case isTrue hkind =>
    refine if_neg fun hlength => h (.inr (.inr (.inl ⟨hkind, ?_⟩)))
    rwa [inRange_eq_true_iff] at hlength
  case isFalse =>
  split
  case isTrue hkind => exact if_neg fun hlength => h (.inr (.inr (.inr ⟨hkind, hlength⟩)))
  case isFalse => rfl

/-- Bytes read as a row other than the bad Reply are a Reply in form with a correct check word (R191). -/
theorem readReply_of_not_isReply {bs : List Byte} (h : ¬isReply bs) (line : LineNo) :
    readReply line bs = .badReply line := by
  unfold readReply
  split
  case h_2 => rfl
  case h_1 addr kind number sensor len rest hhead =>
    split
    case h_2 => rfl
    case h_1 check hcheck =>
      split
      case isFalse => rfl
      case isTrue hgood =>
        refine replyOf_eq_badReply (fun hcontent => h ?_) ..
        obtain ⟨head, afterHead, hfour, hlen⟩ := takeThen_eq_some hhead
        obtain ⟨a, k, n, x, ha, hk, hn, hx, rfl, rfl⟩ := take4_eq_some hfour
        obtain ⟨l, hl, heq, rfl⟩ := take1_eq_some hlen
        cases heq
        obtain ⟨hdrop, hword⟩ := takeNat_eq_some hcheck
        have hrest : rest = rest.take len ++ numBytes 2 check := by
          rw [List.append_nil] at hdrop
          rw [← hdrop, List.take_append_drop]
        have hlength : (rest.take len).length = len := by
          have htwo : (rest.drop len).length = 2 := by rw [hdrop]; simp
          rw [List.length_drop] at htwo
          rw [List.length_take]
          omega
        have hbytes : numBytes 1 addr ++ (numBytes 1 kind ++ (numBytes 1 number ++ (numBytes 1 sensor ++
            (numBytes 1 len ++ rest)))) =
            replyCounted addr kind number sensor (rest.take len) ++ numBytes 2 check := by
          rw [replyCounted, hlength]
          simp only [oneByte, List.append_assoc]
          rw [← hrest]
        have hcorrect : check = checkWord (replyCounted addr kind number sensor (rest.take len)) := by
          refine checkWord_unique hword ?_
          have hover := hgood.2
          rwa [hbytes, ← hlength, ← length_replyCounted addr kind number sensor, hlength, List.take_left] at hover
        refine ⟨addr, kind, number, sensor, rest.take len, ha, hk, hn, hx, hcontent, ?_⟩
        rw [replyBytes_eq, ← hcorrect, hbytes]

/-- Settles O35: a Reply sent is read by its kind, and what is read as a Reply was one. -/
theorem repliesAreReadBack : Obligations.RepliesAreReadBack := by
  refine ⟨fun st word number q data haddr hnumber hq => ?_, fun line bs h => readReply_of_not_isReply h line⟩
  obtain ⟨sensor, hsensor, hbyte, hword⟩ := sensorsOf_sensorByte word
  rw [hbyte, ← hword]
  have hzero : (0 : Nat) < 256 := by decide
  refine ⟨?_, ?_, ?_, fun hlow hhigh => ?_, fun hlength => ?_⟩
  · exact readReply_replyBytes haddr (by decide) hzero hsensor (by decide) st.line
  · rw [readReply_replyBytes haddr (by decide) hnumber hsensor length_requestBytes_le]
    simp only [replyOf, (reads_takeRequestRecord hq).wholeBody]
    rfl
  · exact readReply_replyBytes haddr (by decide) hnumber hsensor (by decide) st.line
  · rw [readReply_replyBytes haddr (by decide) hzero hzero hhigh]
    exact if_pos ((inRange_eq_true_iff ..).2 ⟨hlow, hhigh⟩)
  · rw [readReply_replyBytes haddr (by decide) hzero hzero (by omega)]
    exact if_pos hlength

end Sys2Proof.Proofs

/-! PROOF. Bytes sent: the codes of names, and each frame and Poll as it is laid out (R177, R179, R189-R191). -/

namespace Sys2Proof.Proofs

open Sys2Proof.Machine Sys2Proof.Claims

/-! ## Codes of names: the place in the list of the rule -/

theorem named_class (x : HolderClass) : named [.guest, .junior, .crew, .steward, .officer] x = oneByte x.code := by
  cases x <;> rfl

theorem named_status (x : CardStatus) : named [.active, .blocked] x = oneByte x.code := by cases x <;> rfl

theorem named_presence (x : Presence) : named [.aboard, .ashore, .unknown] x = oneByte x.code := by cases x <;> rfl

theorem named_gesture (x : Gesture) : named [.openDoor, .lockout] x = oneByte x.code := by cases x <;> rfl

theorem named_goods (x : Goods) : named [.ordinary, .restricted] x = oneByte x.code := by cases x <;> rfl

theorem named_direction (x : Direction) : named [.outbound, .inbound] x = oneByte x.code := by cases x <;> rfl

theorem named_outcome (x : PassageOutcome) : named [.passed, .notPassed] x = oneByte x.code := by cases x <;> rfl

theorem named_referralCause (x : ReferralCause) :
    named [.lookupMiss, .higherIssue, .windowClockUnset] x = oneByte x.code := by cases x <;> rfl

theorem named_fallbackCause (x : FallbackCause) :
    named [.trunkDown, .listFull, .timeout, .trunkLoss] x = oneByte x.code := by cases x <;> rfl

theorem named_lineState (x : LineState) : named [.stopped, .running, .settling, .test] x = oneByte x.code := by
  cases x <;> rfl

theorem named_accountState (x : AccountState) : named [.opened, .suspended, .closed] x = oneByte x.code := by
  cases x <;> rfl

theorem named_journalKind (x : JournalKind) : named [.completed, .cancelled, .lapsed] x = oneByte x.code := by
  cases x <;> rfl

theorem named_tamper (x : TamperAction) : named [.none, .lockOut] x = oneByte x.code := by cases x <;> rfl

theorem named_watch (x : Watch) : named [.armed, .tripped] x = oneByte x.code := by cases x <;> rfl

theorem named_muster (x : MusterState) : named [.off, .drill, .alert] x = oneByte x.code := by cases x <;> rfl

theorem named_alarmMode (x : AlarmMode) :
    named [.disabled, .risingEdge, .fallingEdge, .levelHigh, .levelLow] x = oneByte x.code := by cases x <;> rfl

theorem named_table (x : TableName) : named [.card, .account, .cabin] x = oneByte x.code := by cases x <;> rfl

theorem named_mode (x : LoadMode) : named [.merge, .purge] x = oneByte x.code := by cases x <;> rfl

theorem named_restartKind (x : RestartKind) : named [.cold, .warm] x = oneByte x.code := by cases x <;> rfl

theorem named_restartCause (x : RestartCause) :
    named [.retentionLost, .checkFailed, .powerReturned, .command] x = oneByte x.code := by cases x <;> rfl

theorem named_trueFalse (b : Bool) : named [true, false] b = oneByte (if b then 1 else 2) := by cases b <;> rfl

theorem resultSent_eq (r : ExecResult) : resultSent r = oneByte r.code := by cases r <;> rfl

theorem reasonSent_eq (r : Reason) : reasonSent r = oneByte r.code := by cases r <;> rfl

/-! ## Records -/

theorem voyageTime_eq (t : Option DateTime) : voyageTime t = timeBytes t := by cases t <;> rfl

theorem timeIfAny_eq (t : Option (Option DateTime)) : timeIfAny t = optTimeBytes t := by
  cases t with
  | none => rfl
  | some t => exact voyageTime_eq t

theorem sensorsSent_eq : sensorsSent = sensorByte := by
  funext ⟨leaf, bolt, knob, cover⟩
  cases leaf <;> cases bolt <;> cases knob <;> cases cover <;> rfl

theorem cardSent_eq (e : CardEntry) : cardSent e = cardBytes e := by
  simp only [cardSent, named_class, named_status, named_presence]
  unfold cardBytes markBytes
  cases e.mark <;> rfl

theorem holdSent_eq : holdSent = holdBytes := by
  funext h
  simp only [holdSent, named_goods]
  rfl

theorem lockStateBytes_eq (x : LockState) : (match x with
      | .secured => oneByte 1 ++ oneByte 0
      | .openWindow => oneByte 2 ++ oneByte 0
      | .lockedOut (.officer n) => oneByte 3 ++ oneByte 1 ++ oneByte 1 ++ numBytes 3 n
      | .lockedOut .command => oneByte 3 ++ oneByte 1 ++ oneByte 2
      | .lockedOut .automatic => oneByte 3 ++ oneByte 1 ++ oneByte 3) = lockStateBytes x := by
  cases x with
  | secured => rfl
  | openWindow => rfl
  | lockedOut holder => cases holder <;> rfl

theorem cabinSent_eq (c : Cabin) (w o : Option Nat) : cabinSent c w o = cabinBytes c w o := by
  have hlock := lockStateBytes_eq c.lockState
  simp only [cabinSent, sensorsSent_eq, named_tamper, named_watch, named_gesture, reasonSent_eq, voyageTime_eq]
  unfold cabinBytes
  rw [← hlock]
  rfl

theorem recordSent_eq : recordSent = journalBytes := by
  funext r
  simp only [recordSent, named_journalKind, voyageTime_eq]
  rfl

theorem detailSent_eq : detailSent = detailBytes := by
  funext k d
  cases d
  case outcome o => exact named_outcome o
  case cause c => exact named_fallbackCause c
  all_goals rfl

theorem eventSent_eq : eventSent = eventBytes := by
  funext r
  have hkind : named [.entryTripped, .entryRestored, .lockOutSet, .lockOutLifted, .stationAbsent, .stationPresent,
      .foreignCard, .supersededCard, .blockedCard, .presenceAnomaly, .holdLapsed, .passageAbandoned, .latePassage,
      .allAboardDue, .foundAboard, .wrongMusterStation, .musterStarted, .musterEscalated, .musterEnded, .alarmInput,
      .trunkUp, .trunkDown, .referralFallback, .lateAnswer, .loadAbandoned, .dayRollover, .restart, .overflow] r.kind =
      oneByte (r.kind.index.val + 1) := by
    cases r.kind <;> rfl
  simp only [eventSent, hkind, voyageTime_eq, detailSent_eq]
  rfl

theorem portSent_eq (p : PortState) : portSent p = (oneByte p.code, optTimeBytes p.allAboard) := by
  cases p <;> simp only [portSent, timeIfAny_eq] <;> rfl

theorem itemsSent_eq (x : StatusItems) : itemsSent x = itemsBytes x := by
  have hline : (named [.stopped, .running, .settling, .test] : LineState → List Byte) = fun st => oneByte st.code :=
    funext named_lineState
  simp only [itemsSent, named_restartKind, named_restartCause, hline, portSent_eq, named_muster, named_table,
    named_mode]
  unfold itemsBytes sessionBytes
  cases x.session <;> rfl

/-! ## The data of a Status (R179, R190) -/

theorem dataSent_eq (d : StatusData) : dataSent d = d.bytes := by
  cases d
  case items x => exact itemsSent_eq x
  case totals t m a r => simp only [dataSent, named_table, named_mode]; rfl
  case card e => exact cardSent_eq e
  case account a hs => simp only [dataSent, named_accountState, holdSent_eq]; rfl
  case cabin c w o => exact cabinSent_eq c w o
  case journal rs o l => simp only [dataSent, recordSent_eq]; rfl
  case counters c i o p n =>
    simp only [dataSent, portSent_eq, List.flatMap_cons, List.flatMap_nil, List.append_nil, StatusData.bytes,
      countersBytes, countsBytes, List.append_assoc]
  case roll st a b rows m u n => simp only [dataSent, named_muster, timeIfAny_eq]; rfl
  case inputs xs => simp only [dataSent, named_alarmMode, named_trueFalse]; rfl
  case events rs held => simp only [dataSent, eventSent_eq]; rfl
  case protection p n => simp only [dataSent, named_trueFalse]; rfl
  case entries rs => simp only [dataSent, funext resultSent_eq]; rfl
  case install r =>
    cases r with
    | none => rfl
    | some x => cases x <;> rfl
  all_goals rfl

/-! ## Numbers, frames and Polls -/

/-- A number stands most significant byte first (R190). -/
theorem getElem?_numBytes {w i : Nat} (n : Nat) (hi : i < w) :
    (numBytes w n)[i]? = some (BitVec.ofNat 8 (n / 256 ^ (w - 1 - i))) := by
  induction w generalizing i with
  | zero => exact absurd hi (Nat.not_lt_zero i)
  | succ w ih =>
    cases i with
    | zero => rfl
    | succ i =>
      have hplace : w + 1 - 1 - (i + 1) = w - 1 - i := by omega
      rw [numBytes, List.getElem?_cons_succ, ih (Nat.lt_of_succ_lt_succ hi), hplace]

theorem contentSent_eq (x : PollContent) : contentSent x = pollParts x := by
  cases x
  case verdict n v => simp only [contentSent, reasonSent_eq]; rfl
  case notice x =>
    simp only [contentSent, reasonSent_eq]
    cases hnumber : x.number <;> simp [pollParts, hnumber]
  all_goals rfl

/-- Settles O60, by the codes of the names and the layout of each record. -/
theorem framesAndPollsAreSentAsLaidOut : Obligations.FramesAndPollsAreSentAsLaidOut := by
  refine ⟨fun w n i hi => getElem?_numBytes n hi, length_numBytes, fun x => ?_, fun tag p cause => ?_,
    fun st data => rfl, fun x => ?_⟩
  · have hreception : [Reception.accepted, .check, .malformed, .unknownKind].idxOf x.reception = x.reception.code := by
      cases x.reception <;> rfl
    simp only [hreception, resultSent_eq, dataSent_eq]
    rfl
  · simp only [named_referralCause, named_goods, named_direction]
    obtain ⟨station, vessel, card, issue, part⟩ := p
    cases part <;> rfl
  · simp only [contentSent_eq]
    rfl

end Sys2Proof.Proofs

/-! PROOF. The receiver: frames settled in the bytes it holds, and the rows that discard a frame (R176, R177). -/

namespace Sys2Proof.Proofs

open Sys2Proof.Machine Sys2Proof.Claims

/-! ## The search for a start marker -/

theorem seekMarker_eq_dropWhile (bs : List Byte) : seekMarker bs = bs.dropWhile fun b => b != 0xC3#8 := by
  induction bs with
  | nil => rfl
  | cons b bs ih =>
    by_cases hb : b = 0xC3#8
    · simp [seekMarker, startMarker, hb]
    · simp [seekMarker, startMarker, hb, ih]

/-- The bytes from the first start marker on begin with it, or there are none. -/
theorem seekMarker_cases (bs : List Byte) : seekMarker bs = [] ∨ ∃ rest, seekMarker bs = 0xC3#8 :: rest := by
  induction bs with
  | nil => exact .inl rfl
  | cons b bs ih =>
    by_cases hb : b = 0xC3#8
    · exact .inr ⟨bs, by simp [seekMarker, startMarker, hb]⟩
    · simpa [seekMarker, startMarker, hb] using ih

theorem seekMarker_seekMarker (bs : List Byte) : seekMarker (seekMarker bs) = seekMarker bs := by
  rcases seekMarker_cases bs with h | ⟨rest, h⟩ <;> rw [h] <;> rfl

theorem length_seekMarker_le (bs : List Byte) : (seekMarker bs).length ≤ bs.length := by
  rw [seekMarker_eq_dropWhile]
  exact (List.dropWhile_sublist _).length_le

/-! ## One frame settled (R176) -/

theorem readableLength_iff (n : Nat) : readableLength n = true ↔ 4 ≤ n ∧ n ≤ 1028 := inRange_eq_true_iff ..

/-- What the receiver makes of a frame that stands as told in the bytes. -/
def settledBy (up : Bool) (silence : Nat) (bs : List Byte) : Framing → Option (List Instr × Bool × List Byte)
  | .waiting => none
  | .badLength => some ([], up, bs.drop 1)
  | .partialFrame => if 50 < silence then some ([], up, bs.drop 1) else none
  | .complete cls kind tag body good rest =>
    some (if good then ([readFrame cls kind tag body], true, rest)
      else ([.frameCheckFailed cls kind tag], up, if up then rest else bs.drop 1))

theorem eq_cons_cons_of_length {bs : List Byte} (h : 2 ≤ bs.length) : ∃ a b rest, bs = a :: b :: rest := by
  match bs, h with
  | a :: b :: rest, _ => exact ⟨a, b, rest, rfl⟩

/-- A frame whose bytes are all there: its parts and its check word. -/
theorem framingOf_of_length (lengthBytes : List Byte) {n : Nat} {rest : List Byte} (hn : 4 ≤ n)
    (hrest : n + 2 ≤ rest.length) :
    ∃ c k g h body x y, rest.take n = c :: k :: g :: h :: body ∧ (rest.drop n).take 2 = [x, y] ∧
      framingOf lengthBytes n rest =
        .complete c.toNat k.toNat (g.toNat * 256 + h.toNat) body
          (checkHolds (lengthBytes ++ rest.take n) (x.toNat * 256 + y.toNat)) (rest.drop (n + 2)) := by
  obtain ⟨c, k, g, h, body, hframe⟩ : ∃ c k g h body, rest.take n = c :: k :: g :: h :: body := by
    have hlength : 4 ≤ (rest.take n).length := by rw [List.length_take]; omega
    obtain ⟨c, k, tail, htail⟩ := eq_cons_cons_of_length (Nat.le_trans (by decide) hlength)
    have hmore : 2 ≤ tail.length := by rw [htail, List.length_cons, List.length_cons] at hlength; omega
    obtain ⟨g, h, body, rfl⟩ := eq_cons_cons_of_length hmore
    exact ⟨c, k, g, h, body, htail⟩
  obtain ⟨x, y, after, hcheck⟩ := eq_cons_cons_of_length (bs := rest.drop n) (by rw [List.length_drop]; omega)
  have hafter : rest.drop (n + 2) = after := by
    rw [← List.drop_drop, hcheck]
    rfl
  refine ⟨c, k, g, h, body, x, y, hframe, by rw [hcheck]; rfl, ?_⟩
  rw [framingOf, if_neg (by omega), hframe, hcheck, hafter]
  simp [take3, take2, take1, takeThen, takeNat, takePure]

/-- The receiver's next settling, by how the frame stands. -/
theorem frameTaken_eq_settledBy (up : Bool) (silence : Nat) (received : List Byte) :
    frameTaken up silence received =
      settledBy up silence (seekMarker received) (framing silence (seekMarker received)) := by
  unfold frameTaken
  rw [← seekMarker_eq_dropWhile]
  extract_lets bs
  rw [show seekMarker received = bs from rfl]
  clear_value bs
  match bs with
  | [] => rfl
  | [a] =>
    by_cases hgap : 50 < silence <;> simp [framing, settledBy, Config.frameGap, hgap]
  | [a, b] =>
    by_cases hgap : 50 < silence <;> simp [framing, settledBy, Config.frameGap, hgap]
  | a :: hi :: lo :: rest =>
    have hreadable : readableLength (hi.toNat * 256 + lo.toNat) = true ↔
        ¬(hi.toNat * 256 + lo.toNat < 4 ∨ 1028 < hi.toNat * 256 + lo.toNat) := by
      rw [readableLength_iff]
      omega
    dsimp -zeta only
    extract_lets n
    have hn : hi.toNat * 256 + lo.toNat = n := rfl
    rw [hn] at hreadable
    clear_value n
    by_cases hbad : n < 4 ∨ 1028 < n
    · have hnot : ¬readableLength n = true := fun h => hreadable.1 h hbad
      rw [if_pos hbad, framing, hn, if_neg hnot, settledBy]
    rw [if_neg hbad, framing, hn, if_pos (hreadable.2 hbad)]
    by_cases hshort : rest.length < n + 2
    · rw [if_pos hshort, framingOf, if_pos hshort, settledBy]
    obtain ⟨c, k, g, h, body, x, y, hframe, hcheck, hwhole⟩ :=
      framingOf_of_length [hi, lo] (n := n) (rest := rest) (by omega) (by omega)
    have hsum : checkHolds ([hi, lo] ++ rest.take n) (x.toNat * 256 + y.toNat) = true ↔
        (((hi :: lo :: rest.take n).map fun b => b.toNat).sum + (x.toNat * 256 + y.toNat)) % 65536 = 0 :=
      checkHolds_iff ..
    rw [hframe] at hsum
    rw [if_neg hshort, hwhole, settledBy, hframe, hcheck]
    dsimp only
    by_cases hgood : checkHolds ([hi, lo] ++ c :: k :: g :: h :: body) (x.toNat * 256 + y.toNat) = true
    · rw [if_pos hgood, if_pos (hsum.1 hgood)]
    · rw [if_neg hgood, if_neg (mt hsum.2 hgood)]

/-! ## All frames settled -/

/-- The receiver of the model and that of the statements settle the same frames. -/
theorem takeFrames_eq_framesTaken (silence n : Nat) (up : Bool) (bs : List Byte) :
    takeFrames silence n up bs = framesTaken silence n up bs := by
  induction n generalizing up bs with
  | zero => rfl
  | succ n ih =>
    rw [framesTaken, frameTaken_eq_settledBy, ← seekMarker_eq_dropWhile, takeFrames]
    cases framing silence (seekMarker bs) with
    | waiting => rfl
    | badLength =>
      simp only [settledBy, ih]
      rfl
    | partialFrame =>
      by_cases hgap : 50 < silence
      · simp only [settledBy, Config.frameGap, if_pos hgap, ih]
        rfl
      · simp only [settledBy, Config.frameGap, if_neg hgap]
        exact if_neg hgap
    | complete cls kind tag body good rest =>
      cases good
      · simp only [settledBy, Bool.false_eq_true, if_false, ih]
        rfl
      · simp only [settledBy, if_true, ih]
        rfl

/-- Bytes of which the receiver settles nothing wait for more. -/
def waits (silence : Nat) (bs : List Byte) : Prop := ∀ up, frameTaken up silence bs = none

theorem frameTaken_seekMarker (up : Bool) (silence : Nat) (bs : List Byte) :
    frameTaken up silence (seekMarker bs) = frameTaken up silence bs := by
  rw [frameTaken_eq_settledBy, frameTaken_eq_settledBy, seekMarker_seekMarker]

/-- Whether the receiver settles a frame does not turn on the trunk state. -/
theorem waits_of_frameTaken {up : Bool} {silence : Nat} {bs : List Byte} (h : frameTaken up silence bs = none) :
    waits silence (seekMarker bs) := fun up' => by
  rw [frameTaken_eq_settledBy] at h
  rw [frameTaken_seekMarker, frameTaken_eq_settledBy]
  cases hframing : framing silence (seekMarker bs) <;> rw [hframing] at h
  case waiting => rfl
  case badLength => exact nomatch h
  case partialFrame =>
    by_cases hgap : 50 < silence
    · rw [settledBy, if_pos hgap] at h
      exact nomatch h
    · rw [settledBy, if_neg hgap]
  case complete => exact nomatch h

theorem framing_one (silence : Nat) (a : Byte) :
    framing silence [a] = if 50 < silence then .badLength else .waiting := rfl

theorem framing_two (silence : Nat) (a b : Byte) :
    framing silence [a, b] = if 50 < silence then .badLength else .waiting := rfl

/-- After a gap of more than 50 ms the receiver does not wait for a Length. -/
theorem eq_nil_of_framing_waiting {silence : Nat} {bs : List Byte} (h : framing silence bs = .waiting)
    (hgap : 50 < silence) : bs = [] := by
  match bs with
  | [] => rfl
  | [a] => exact absurd h (by rw [framing_one, if_pos hgap]; exact Framing.noConfusion)
  | [a, b] => exact absurd h (by rw [framing_two, if_pos hgap]; exact Framing.noConfusion)
  | a :: hi :: lo :: rest =>
    rw [framing] at h
    split at h
    · unfold framingOf at h
      split at h
      · exact nomatch h
      · dsimp only at h
        split at h <;> exact nomatch h
    · exact nomatch h

/-- The bytes behind a complete frame are fewer than those held. -/
theorem length_lt_of_framing_complete {silence cls kind tag : Nat} {bs body rest : List Byte} {good : Bool}
    (h : framing silence bs = .complete cls kind tag body good rest) : rest.length < bs.length := by
  match bs with
  | [] => exact nomatch h
  | [a] =>
    rw [framing_one] at h
    split at h <;> exact nomatch h
  | [a, b] =>
    rw [framing_two] at h
    split at h <;> exact nomatch h
  | a :: hi :: lo :: behind =>
    rw [framing] at h
    split at h
    · unfold framingOf at h
      split at h
      · exact nomatch h
      · dsimp only at h
        split at h
        · rename_i check after _ hcheck
          cases h
          obtain ⟨hdrop, -⟩ := takeNat_eq_some hcheck
          have hlength := congrArg List.length hdrop
          rw [List.length_drop, List.length_append, length_numBytes] at hlength
          simp only [List.length_cons]
          omega
        · exact nomatch h
    · exact nomatch h

/-- After a gap of more than 50 ms nothing waits (R176). -/
theorem seekMarker_eq_nil_of_frameTaken {up : Bool} {silence : Nat} {bs : List Byte}
    (h : frameTaken up silence bs = none) (hgap : 50 < silence) : seekMarker bs = [] := by
  rw [frameTaken_eq_settledBy] at h
  cases hframing : framing silence (seekMarker bs) <;> rw [hframing] at h
  case waiting => exact eq_nil_of_framing_waiting hframing hgap
  case badLength => exact nomatch h
  case partialFrame =>
    rw [settledBy, if_pos hgap] at h
    exact nomatch h
  case complete => exact nomatch h

/-- What is left when a frame has been settled is shorter than the bytes held. -/
theorem length_lt_of_frameTaken {up up' : Bool} {silence : Nat} {bs left : List Byte} {rows : List Instr}
    (h : frameTaken up silence bs = some (rows, up', left)) : left.length < bs.length := by
  have hmarked := length_seekMarker_le bs
  rw [frameTaken_eq_settledBy] at h
  have hdrop : framing silence (seekMarker bs) ≠ .waiting → ((seekMarker bs).drop 1).length < bs.length := by
    intro hne
    have hpos : 0 < (seekMarker bs).length := List.length_pos_iff.2 fun hnil => hne (by rw [hnil]; rfl)
    rw [List.length_drop]
    omega
  cases hframing : framing silence (seekMarker bs) <;> rw [hframing] at h hdrop
  case waiting => exact nomatch h
  case badLength =>
    cases h
    exact hdrop Framing.noConfusion
  case partialFrame =>
    by_cases hgap : 50 < silence
    · rw [settledBy, if_pos hgap] at h
      cases h
      exact hdrop Framing.noConfusion
    · rw [settledBy, if_neg hgap] at h
      exact nomatch h
  case complete cls kind tag body good rest =>
    have hrest := length_lt_of_framing_complete hframing
    cases good
    · cases h
      split
      · omega
      · exact hdrop Framing.noConfusion
    · cases h
      omega

theorem framesTaken_left (silence : Nat) : ∀ (n : Nat) (up : Bool) (bs : List Byte), bs.length < n →
    ∃ last, waits silence (seekMarker last) ∧ (50 < silence → seekMarker last = []) ∧
      (framesTaken silence n up bs).2 = seekMarker last
  | 0, _, bs, h => absurd h (Nat.not_lt_zero _)
  | n + 1, up, bs, h => by
    rw [framesTaken]
    cases hframe : frameTaken up silence bs with
    | none =>
      exact ⟨bs, waits_of_frameTaken hframe, seekMarker_eq_nil_of_frameTaken hframe, (seekMarker_eq_dropWhile bs).symm⟩
    | some x =>
      obtain ⟨rows, up', left⟩ := x
      have hshorter := length_lt_of_frameTaken hframe
      exact framesTaken_left silence n up' left (by omega)

/-- When the receiver has settled what it holds, it waits. -/
theorem framesTaken_waits (silence : Nat) (up : Bool) (bs : List Byte) :
    let left := (framesTaken silence (bs.length + 1) up bs).2
    waits silence left ∧ (50 < silence → left = []) ∧ (left = [] ∨ ∃ rest, left = 0xC3#8 :: rest) := by
  obtain ⟨last, hwaits, hgap, hleft⟩ := framesTaken_left silence (bs.length + 1) up bs (Nat.lt_succ_self _)
  rw [hleft]
  exact ⟨hwaits, hgap, seekMarker_cases last⟩

/-! ## A byte arrives (R176) -/

/-- A byte arrives after the command at the front of the queue as after the queue that the command leaves. -/
theorem receiveByte_of_step {s t : State} (hwaiting : s.pending ≠ []) (hstep : step s = .next t) (b : Byte) :
    s.receiveByte b = t.receiveByte b := by
  obtain ⟨c, rest, hpending⟩ := List.exists_cons_of_ne_nil hwaiting
  have hexec : exec c { s with pending := rest } = .next t := by
    rw [← hstep, step, hpending]
  obtain ⟨u, hu, hrest⟩ := everyCommandCompletes c { s with pending := rest }
  obtain rfl : u = t := Host.Outcome.next.inj (hu.symm.trans hexec)
  rw [State.receiveByte, State.receiveByte, State.takeQueue, State.takeQueue, hpending, List.foldl_cons, hstep, hrest]

theorem receiveByte_of_no_pending {s : State} (hidle : s.pending = []) (b : Byte) : s.receiveByte b = s.byteTaken b := by
  rw [State.receiveByte, State.takeQueue, hidle, List.foldl_nil]

/-! ## The rows of a frame that is discarded (R176) -/

/-- A Length that has come, by the bytes behind it. -/
theorem framing_of_length {silence n : Nat} {bs : List Byte} (h : lengthOf bs = some n) :
    (n < 4 ∨ 1028 < n → framing silence (seekMarker bs) = .badLength) ∧
    (4 ≤ n → n ≤ 1028 → framing silence (seekMarker bs) ≠ .badLength) ∧
    (4 ≤ n → n ≤ 1028 → behindLength bs < n + 2 → framing silence (seekMarker bs) = .partialFrame) := by
  unfold behindLength
  unfold lengthOf at h
  rw [← seekMarker_eq_dropWhile] at h ⊢
  split at h
  case h_2 => exact nomatch h
  case h_1 a hi lo rest hbs =>
    cases h
    rw [hbs, framing]
    refine ⟨fun hbad => if_neg ?_, fun hlow hhigh => ?_, fun hlow hhigh hshort => ?_⟩
    · rw [readableLength_iff]
      omega
    · rw [if_pos ((readableLength_iff _).2 ⟨hlow, hhigh⟩), framingOf]
      split
      · exact Framing.noConfusion
      · dsimp only
        split <;> exact Framing.noConfusion
    · rw [if_pos ((readableLength_iff _).2 ⟨hlow, hhigh⟩), framingOf]
      exact if_pos hshort

/-- A Length that has not come. -/
theorem framing_of_no_length {silence : Nat} {bs : List Byte} (h : lengthOf bs = none) :
    framing silence (seekMarker bs) =
      if 50 < silence ∧ seekMarker bs ≠ [] then .badLength else .waiting := by
  unfold lengthOf at h
  rw [← seekMarker_eq_dropWhile] at h
  match hbs : seekMarker bs with
  | [] => simp [framing]
  | [a] => simp [framing_one]
  | [a, b] => simp [framing_two]
  | a :: hi :: lo :: rest =>
    rw [hbs] at h
    exact nomatch h

theorem seekMarker_ne_nil {bs : List Byte} (h : 0xC3#8 ∈ bs) : seekMarker bs ≠ [] := by
  induction bs with
  | nil => exact absurd h List.not_mem_nil
  | cons b bs ih =>
    by_cases hb : b = 0xC3#8
    · simp [seekMarker, startMarker, hb]
    · have hmem : 0xC3#8 ∈ bs := (List.mem_cons.1 h).resolve_left (Ne.symm hb)
      simpa [seekMarker, startMarker, hb] using ih hmem

theorem discardFrame_eq (t : TrunkPort) :
    t.discardFrame = { t with received := (afterMarker t.received).dropWhile fun b => b != 0xC3#8 } := by
  rw [TrunkPort.discardFrame, afterMarker, ← seekMarker_eq_dropWhile, ← seekMarker_eq_dropWhile]

section
variable {s : State} (hon : s.power.mainOn = true)
include hon

theorem exec_frameGapTimeout :
    exec .frameGapTimeout s = .next (if s.trunk.stands = .partialFrame ∧ 50 < s.trunk.silence then
      s.setTrunk s.trunk.discardFrame else s) :=
  congrArg Host.Outcome.next (whenOn_of_on hon _)

theorem exec_lengthNotReadable :
    exec .lengthNotReadable s = .next (if s.trunk.stands = .badLength then s.setTrunk s.trunk.discardFrame else s) :=
  congrArg Host.Outcome.next (whenOn_of_on hon _)

end

/-- Settles O39: frames settled by induction on the frames looked at, and the rows by how the frame stands. -/
theorem trunkBytesAreFramedOrDiscarded : Obligations.TrunkBytesAreFramedOrDiscarded := by
  refine ⟨⟨fun s b => ⟨fun t hwaiting hstep => receiveByte_of_step hwaiting hstep b, fun hidle hnot => ?_,
    fun hidle hon hcarrier => ?_⟩, framesTaken_waits⟩, fun s hon => ?_⟩
  · rw [receiveByte_of_no_pending hidle]
    refine if_neg fun ⟨hon, hcarrier⟩ => ?_
    rcases hnot with hoff | hoff
    · exact Bool.false_ne_true (hoff.symm.trans hon)
    · exact Bool.false_ne_true (hoff.symm.trans hcarrier)
  · rw [receiveByte_of_no_pending hidle, State.byteTaken, if_pos ⟨hon, hcarrier⟩]
    simp only [TrunkPort.frames, takeFrames_eq_framesTaken, hidle]
    rfl
  · rw [exec_frameGapTimeout hon, exec_lengthNotReadable hon, discardFrame_eq]
    refine ⟨fun n hn => ?_, fun hnone => ?_⟩
    · obtain ⟨hbad, hgood, hpartial⟩ := framing_of_length (silence := s.trunk.silence) hn
      refine ⟨fun hlow hhigh hshort hgap => congrArg _ (if_pos ⟨hpartial hlow hhigh hshort, hgap⟩),
        fun hno => congrArg _ (if_neg fun h => Nat.not_lt.2 hno h.2), fun hout => congrArg _ (if_pos (hbad hout)),
        fun hlow hhigh => congrArg _ (if_neg (hgood hlow hhigh))⟩
    · have hstands : s.trunk.stands = _ := framing_of_no_length hnone
      refine ⟨congrArg _ (if_neg fun h => ?_), fun hgap hmem => congrArg _ (if_pos ?_), fun hno => congrArg _ (if_neg ?_)⟩
      · rw [hstands] at h
        split at h <;> exact nomatch h.1
      · rw [hstands, if_pos ⟨hgap, seekMarker_ne_nil hmem⟩]
      · rw [hstands, if_neg fun h => Nat.not_lt.2 hno h.1]
        exact Framing.noConfusion

end Sys2Proof.Proofs

/-! PROOF. Polls (R22, R26, R28, R35, R38), and the millisecond of an empty queue (log 1). -/

namespace Sys2Proof.Proofs

open Sys2Proof.Machine Sys2Proof.Claims

/-! ## The round that a free line polls -/

/-- The addresses that a free line polls, and the round count with them. -/
def toPoll (x : Line) : List Nat × Nat := if leftInRound x = [] then nextRound x else (leftInRound x, x.roundCount)

theorem carries_iff (st : LineState) : st.carries = true ↔ st = .running ∨ st = .test := by
  cases st <;> simp [LineState.carries]

theorem filter_pollable_eq_leftInRound (x : Line) : (x.round.getD []).filter x.pollable = leftInRound x := by
  refine congrArg (List.filter · _) (funext fun a => ?_)
  unfold Line.pollable
  cases lookup StationRec.addr a x.stations <;> rfl

theorem beginRound_eq {x : Line} (h : x.state = .running ∨ x.state = .test) :
    x.beginRound = { x with round := some (nextRound x).1, roundCount := (nextRound x).2 } := by
  rcases h with hstate | hstate
  · have hpolled : ∀ count, x.polledAt count = addresses x (pollsAt count) := fun _ => rfl
    simp only [Line.beginRound, nextRound, hstate, hpolled, Bool.and_eq_true, Bool.not_eq_true', List.isEmpty_iff,
      List.isEmpty_eq_false_iff, reduceCtorEq, if_false]
    split_ifs <;> rfl
  · unfold Line.beginRound nextRound
    simp only [hstate, if_true]
    have hall : addresses x (fun _ => true) = x.stations.map StationRec.addr := by
      rw [addresses, List.filter_true]
    rw [hall]

theorem refreshRound_eq {x : Line} (h : x.state = .running ∨ x.state = .test) :
    x.refreshRound = { x with round := some (toPoll x).1, roundCount := (toPoll x).2 } := by
  unfold Line.refreshRound toPoll
  rw [filter_pollable_eq_leftInRound]
  by_cases hleft : leftInRound x = []
  · rw [if_pos hleft, ← beginRound_eq h, hleft]
    rfl
  · rw [if_neg hleft]
    exact if_neg (mt List.isEmpty_iff.1 hleft)

/-- Each address that is polled is a station's. -/
theorem exists_of_mem_toPoll {x : Line} {a : Nat} (h : a ∈ (toPoll x).1) :
    ∃ r, lookup StationRec.addr a x.stations = some r := by
  have hlisted : ∀ test, a ∈ addresses x test → ∃ r, lookup StationRec.addr a x.stations = some r := by
    intro test hmem
    obtain ⟨r, hr, rfl⟩ := List.mem_map.1 hmem
    exact Option.isSome_iff_exists.1 (List.find?_isSome.2 ⟨r, List.mem_of_mem_filter hr, by simp⟩)
  unfold toPoll at h
  split at h
  · unfold nextRound at h
    (repeat' split at h) <;> exact hlisted _ h
  · have hleft := (List.mem_filter.1 h).2
    exact Option.isSome_iff_exists.1 (by
      cases hr : lookup StationRec.addr a x.stations with
      | none => rw [hr] at hleft; exact nomatch hleft
      | some r => rfl)

/-! ## POLL (R26, R28) -/

theorem pollContent_eq_pollCase (r : StationRec) : r.pollContent = pollCase r := by
  obtain ⟨addr, kind, state, misses, openRequest, notice, repeatRecord, queue, good, failed⟩ := r
  cases state with
  | outOfService => rfl
  | absent => rfl
  | present => cases notice <;> cases openRequest <;> cases queue <;> rfl

/-- A line that carries no Poll stays as it is. -/
theorem sendPoll_of_nothing {x : Line}
    (h : x.exchange ≠ none ∨ x.state = .stopped ∨ x.state = .settling ∨ (toPoll x).1 = []) : x.sendPoll = x := by
  unfold Line.sendPoll
  split
  case isFalse => rfl
  case isTrue hfree =>
    have hcarries := (carries_iff _).1 hfree.1
    rw [refreshRound_eq hcarries]
    have hempty : (toPoll x).1 = [] := by
      rcases h with h | h | h | h
      · exact absurd hfree.2 h
      · rw [h] at hcarries; simp at hcarries
      · rw [h] at hcarries; simp at hcarries
      · exact h
    rw [hempty]

/-- A free line polls the first address of its round. -/
theorem sendPoll_of_cons {x : Line} {a : Nat} {rest : List Nat} (hfree : x.exchange = none)
    (hcarries : x.state = .running ∨ x.state = .test) (h : (toPoll x).1 = a :: rest) :
    ∃ r, lookup StationRec.addr a x.stations = some r ∧
      x.sendPoll = { x with
        round := some rest, roundCount := (toPoll x).2
        exchange := some { addr := a, content := pollCase r, left := x.settings.replyTimeout, taken := true,
                           noticeLive := true } } := by
  obtain ⟨r, hr⟩ := exists_of_mem_toPoll (x := x) (a := a) (h ▸ List.mem_cons_self)
  refine ⟨r, hr, ?_⟩
  unfold Line.sendPoll
  rw [if_pos ⟨(carries_iff _).2 hcarries, hfree⟩, refreshRound_eq hcarries, h]
  dsimp only
  rw [hr, ← pollContent_eq_pollCase]

theorem setLine_line (s : State) (l : LineNo) : s.setLine l (s.line l) = s := by
  show s.setLines (s.lines.set l.val s.lines[l.val] _) = s
  rw [Vector.set_getElem_self]
  rfl

/-- Settles O40, by the addresses that the line polls. -/
theorem pollCarriesTheFirstCase : Obligations.PollCarriesTheFirstCase := by
  intro s l hon
  have hexec : exec (.poll l) s = .next (s.setLine l (s.line l).sendPoll) := congrArg Host.Outcome.next (whenOn_of_on hon _)
  dsimp only
  rw [hexec]
  refine ⟨fun hnothing => ?_, fun a rest hfree hcarries hround => ?_⟩
  · rw [sendPoll_of_nothing hnothing, setLine_line]
  · obtain ⟨r, hr, hpoll⟩ := sendPoll_of_cons hfree hcarries hround
    exact ⟨r, hr, by rw [hpoll]; rfl⟩

/-! ## The rows of a millisecond -/

theorem wantsPoll_eq (x : Line) :
    x.wantsPoll = (polledNext x).any fun a => (lookup StationRec.addr a x.stations).isSome := by
  have hnext : polledNext x =
      if (x.state = .running ∨ x.state = .test) ∧ x.exchange = none then (toPoll x).1.head? else none := by
    unfold polledNext toPoll
    split_ifs <;> rfl
  rw [hnext, Line.wantsPoll]
  split
  case isTrue hfree =>
    obtain ⟨hcarries, hfree⟩ := hfree
    match hround : (toPoll x).1 with
    | [] => rw [sendPoll_of_nothing (.inr (.inr (.inr hround))), hfree]; rfl
    | a :: rest =>
      obtain ⟨r, hr, hpoll⟩ := sendPoll_of_cons hfree hcarries hround
      rw [hpoll, hfree, List.head?_cons, Option.any_some, hr]
      rfl
  case isFalse hbusy =>
    have hsame : x.exchange = none → x.sendPoll = x := fun hfree =>
      if_neg fun h => hbusy ⟨(carries_iff _).1 h.1, hfree⟩
    cases hexchange : x.exchange with
    | none => rw [hsame hexchange, hexchange]; rfl
    | some e => rfl

theorem pollsDue_eq_pollRows (s : State) : pollsDue s = pollRows s := by
  simp only [pollsDue, pollRows, wantsPoll_eq]

theorem atTime_eq (s : State) (t : Option Nat) (row : Instr) : (if s.reached t then [row] else []) = atTime s t row := by
  cases t <;> simp [State.reached, atTime]

theorem lineDue_eq_lineRows (s : State) (l : LineNo) : lineDue s l = lineRows s l := by
  unfold lineDue lineRows Line.waitDue Line.replyDue
  cases (s.line l).wait <;> cases (s.line l).exchange <;> simp

theorem sessionDue_eq (s : State) : sessionDue s = match s.engine.state, s.engine.session with
    | .loading _, _ => []
    | _, some x => if x.gap = 0 then [.loadGapExpiry] else []
    | _, none => [] := by
  unfold sessionDue CommandEngine.abandonedSession
  cases s.engine.state <;> cases s.engine.session <;> simp [Option.filter]

theorem timersDue_eq_timedRows (s : State) : timersDue s = timedRows s := by
  have hcabin : cabinDue s = fun c =>
      atTime s c.windowEnd (.windowEnd c.data.number) ++ atTime s c.overrideEnd (.overrideEnd c.data.number) :=
    funext fun c => by rw [cabinDue, atTime_eq, atTime_eq]
  unfold timersDue timedRows
  rw [sessionDue_eq, funext (lineDue_eq_lineRows s), hcabin] <;> rfl

/-- A Restart is due when its Status no longer awaits transmission. -/
theorem restartDue_isSome_iff (s : State) : s.restartDue.isSome = true ↔
    s.engine.restartOption.isSome ∧ (s.trunk.outgoing.all fun f => !awaitsRestartStatus f) = true := by
  unfold State.restartDue
  rw [← List.not_any_eq_all_not]
  split
  case isTrue hawaits => simp [hawaits]
  case isFalse hnone => simp [hnone]

theorem restartRow_eq_restartRows (s : State) : restartRow s = restartRows s := by
  have hstatus : (fun f => !awaitsRestartStatus f) = fun f : OutFrame => match f with
      | .status x => !(x.cls == 1 && x.kind == 34 && x.result == some .ok)
      | _ => true := by
    funext f
    cases f <;> rfl
  have hlevels : (Vector.ofFn fun i => s.muster.inputs[i].level) = s.muster.inputs.map fun x => x.level := by
    ext i hi
    simp
  unfold restartRow restartRows
  rw [hlevels]
  refine if_congr ?_ rfl rfl
  rw [restartDue_isSome_iff, hstatus] <;> rfl

/-! ## The clock reached (R103, R192) -/

theorem boundaryReached_iff (v : VoyageClock) :
    v.boundaryReached = true ↔ ∃ now b, v.time = some now ∧ v.boundary = some b ∧ timeKey b ≤ timeKey now := by
  unfold VoyageClock.boundaryReached
  cases v.time <;> cases v.boundary <;> simp [notLater]

/-- What the clock has reached is taken, with a boundary in place of the one reached. -/
def comparedWith (s : State) (boundary : Option DateTime) : State :=
  if s.engine.voyage.boundaryReached then
    (s.setEngine { s.engine with voyage := { s.engine.voyage with boundary := boundary } }).compareClock true
  else s.compareClock false

/-- The comparison of the clock is the one of the statements (R103, R192). -/
theorem clockCompared_comparedWith (s : State) (boundary : Option DateTime) :
    clockCompared s (comparedWith s boundary) boundary := by
  have hdue : ∀ c : State, c.engine.voyage.time = s.engine.voyage.time → c.passage.port = s.passage.port →
      (∀ a, ¬∃ now, s.engine.voyage.time = some now ∧ reachesAllAboard s now a) → c.allAboardReached = false := by
    intro c htime hport hnone
    rw [← Bool.not_eq_true, allAboardReached_iff]
    rintro ⟨t, a, ht, ha⟩
    exact hnone a ⟨t, htime ▸ ht, hport ▸ ha.1, ha.2⟩
  unfold clockCompared comparedWith
  dsimp only
  rw [← boundaryReached_iff]
  refine ⟨fun hnot hnone => ?_, fun hreached hnone => ?_, fun a hnot ⟨now, hnow, ha⟩ => ?_,
    fun a hreached ⟨now, hnow, ha⟩ => ?_⟩
  · rw [if_neg hnot, compareClock_of_not_due (hdue s rfl rfl hnone)]
    rfl
  · rw [if_pos hreached]
    exact compareClock_of_not_due (hdue
      (s.setEngine { s.engine with voyage := { s.engine.voyage with boundary := boundary } }) rfl rfl hnone) true
  · rw [if_neg hnot, compareClock_of_due (s := s) hnow ha]
  · rw [if_pos hreached]
    exact compareClock_of_both
      (s := s.setEngine { s.engine with voyage := { s.engine.voyage with boundary := boundary } }) hnow ha

theorem vmap_eq_map {α : Type} {n : Nat} (v : Vector α n) (f : α → α) : vmap v f = v.map f := by
  ext i hi
  simp [vmap]

theorem countTime_eq_counted (s : State) : s.countTime = counted s := by
  unfold State.countTime counted
  rw [vmap_eq_map]
  rfl

/-- Settles O27, by the stages of the tick. -/
theorem emptyQueueStepIsOneMillisecond : Obligations.EmptyQueueStepIsOneMillisecond := by
  intro s hidle
  have hstep : step s = .next s.tick := by rw [step, hidle]
  rw [hstep]
  refine ⟨fun hoff => ?_, fun hon => ⟨(counted s).compareRunning, clockCompared_comparedWith (counted s) _, ?_⟩⟩
  · rw [State.tick, if_neg (ne_true_of_eq_false hoff)]
    rfl
  · have hclosed := execClosed_pending []
    have hpending : (entryTaken (counted s).compareRunning).pending = [] := by
      rw [← settleNext_eq_entryTaken]
      exact hclosed.settleNext (hclosed.compareRunning hidle)
    rw [State.tick, if_pos hon, countTime_eq_counted, settleNext_eq_entryTaken]
    dsimp only [State.setPending, TrunkPort.frames]
    rw [timersDue_eq_timedRows, restartRow_eq_restartRows, pollsDue_eq_pollRows, takeFrames_eq_framesTaken,
      State.pending_setTrunk, hpending]
    rfl

end Sys2Proof.Proofs

/-! PROOF. The restarts, main power and the carrier (R87, R122, R141, R153, R154, R156, R157, R175, R186-R188). -/

namespace Sys2Proof.Proofs

open Sys2Proof.Machine Sys2Proof.Claims

/-! ## The stages of a warm restart -/

theorem discardWork_eq_workDiscarded (s : State) (cause : RestartCause) : s.discardWork cause = workDiscarded s cause := by
  unfold State.discardWork workDiscarded
  rw [vmap_eq_map]
  rfl

theorem lapseAll_eq_foldl (hs : List Hold) (s : State) :
    lapseAll hs s = hs.foldl (fun t h => holdEnded t h .lapsed h.amount 0) s := by
  induction hs generalizing s with
  | nil => rfl
  | cons h hs ih => rw [lapseAll, ih, endHold_eq_holdEnded, List.foldl_cons]

theorem workEnded_eq (s : State) : (lapseAll s.charge.holds s).setPassages [] = workEnded s := by
  unfold workEnded
  rw [lapseAll_eq_foldl]
  rfl

theorem alarmIfHeld_eq_conditionFound (s : State) (i : Fin 4) : s.alarmIfHeld i = conditionFound s i := by
  rw [conditionFound, ← alarmCondition_eq_conditionOccurred]
  exact if_congr (heldBy_iff_asserted _) rfl rfl

theorem takeLevels_eq_levelsFound (s : State) (levels : Levels) : s.takeLevels levels = levelsFound s levels := by
  simp only [State.takeLevels, levelsFound, alarmIfHeld_eq_conditionFound]
  rfl

/-- The ends of holds and passages leave the Command Engine. -/
theorem engine_workEnded (s : State) : (workEnded s).engine = s.engine := by
  obtain ⟨accounts, h⟩ := charge_lapseAll s.charge.holds s
  rw [← workEnded_eq, h]
  rfl

theorem compareAtRestart_eq_comparedWith (s : State) : s.compareAtRestart =
    comparedWith s (s.engine.voyage.time.map (boundaryAfter s.engine.profile.dayBoundaryHour)) := rfl

/-! ## What the comparison of the clock keeps (R103, R192) -/

/-- A day rollover and a transition to Last Call, of what a warm restart speaks of, move the daily spent values. -/
def clockKeeps (a b : State) : Prop :=
  b.cards = a.cards ∧ b.muster = a.muster ∧ (∃ p, b.passage = { a.passage with port := p }) ∧
    (b.charge = a.charge ∨
      b.charge = { a.charge with accounts := a.charge.accounts.map fun x => { x with dailySpent := 0 } })

theorem enterLastCall_frame (s : State) :
    ∃ p ev, s.enterLastCall = { s with passage := { s.passage with port := p }, events := ev } := by
  unfold State.enterLastCall
  split <;> exact ⟨_, _, rfl⟩

theorem clockKeeps_compareClock (s : State) (b : Bool) : clockKeeps s (s.compareClock b) := by
  unfold State.compareClock
  split
  · dsimp only
    split
    · obtain ⟨p, ev, h⟩ := enterLastCall_frame (s.setFree (s.free + 1)).rollover
      rw [h]
      exact ⟨rfl, rfl, ⟨p, rfl⟩, .inr rfl⟩
    · obtain ⟨p, ev, h⟩ := enterLastCall_frame (s.setFree (s.free + 1))
      rw [h]
      exact ⟨rfl, rfl, ⟨p, rfl⟩, .inr rfl⟩
  · split
    · exact ⟨rfl, rfl, ⟨s.passage.port, rfl⟩, .inr rfl⟩
    · split
      · obtain ⟨p, ev, h⟩ := enterLastCall_frame s
        rw [h]
        exact ⟨rfl, rfl, ⟨p, rfl⟩, .inl rfl⟩
      · exact ⟨rfl, rfl, ⟨s.passage.port, rfl⟩, .inl rfl⟩

theorem clockKeeps_comparedWith (s : State) (boundary : Option DateTime) : clockKeeps s (comparedWith s boundary) := by
  unfold comparedWith
  split
  · exact clockKeeps_compareClock
      (s.setEngine { s.engine with voyage := { s.engine.voyage with boundary := boundary } }) true
  · exact clockKeeps_compareClock s false

/-! ## What the conditions of the inputs keep (R130, R141) -/

/-- A condition moves marks, the muster and seen flags, and with no passage pending nothing else that a warm restart
speaks of. -/
def alarmKeeps (a b : State) : Prop :=
  b.charge = a.charge ∧ b.passage = a.passage ∧
    (b.cards.map fun e => (e.data, e.presence, e.stamp)) = a.cards.map (fun e => (e.data, e.presence, e.stamp)) ∧
    ∀ i : Fin 4, b.muster.inputs[i].level = a.muster.inputs[i].level ∧ b.muster.inputs[i].mode = a.muster.inputs[i].mode

theorem alarmKeeps_rfl (s : State) : alarmKeeps s s := ⟨rfl, rfl, rfl, fun _ => ⟨rfl, rfl⟩⟩

theorem alarmKeeps_trans {a b c : State} (hab : alarmKeeps a b) (hbc : alarmKeeps b c) : alarmKeeps a c := by
  obtain ⟨hcharge, hpassage, hcards, hinputs⟩ := hab
  obtain ⟨hcharge', hpassage', hcards', hinputs'⟩ := hbc
  exact ⟨hcharge'.trans hcharge, hpassage'.trans hpassage, hcards'.trans hcards, fun i =>
    ⟨(hinputs' i).1.trans (hinputs i).1, (hinputs' i).2.trans (hinputs i).2⟩⟩

theorem musterEntered_of_no_passages {s : State} (h : s.passage.passages = []) (entered : MusterState) (started : Detail) :
    alarmKeeps s (musterEntered s entered started) := by
  unfold musterEntered
  rw [h, List.filter_nil, abandonedInMuster]
  refine ⟨rfl, rfl, ?_, fun i => ⟨rfl, rfl⟩⟩
  show List.map _ (s.cards.map fun e => { e with mark := MusterMark.unmarked }) = _
  rw [List.map_map]
  rfl

theorem alarmKeeps_conditionOccurred {s : State} (h : s.passage.passages = []) (i : Fin 4) :
    alarmKeeps s (conditionOccurred s i) := by
  have hseen : alarmKeeps s { s with muster := { s.muster with
      inputs := s.muster.inputs.set i { s.muster.inputs[i] with seen := true } } } := by
    refine ⟨rfl, rfl, rfl, fun j => ?_⟩
    by_cases hij : i = j
    · subst hij; simp
    · simp [Fin.val_inj, hij]
  unfold conditionOccurred
  dsimp only
  split
  · exact hseen
  · split
    · refine alarmKeeps_trans hseen (alarmKeeps_trans ?_ (musterEntered_of_no_passages ?_ _ _))
      · exact ⟨rfl, rfl, rfl, fun _ => ⟨rfl, rfl⟩⟩
      · exact h
    · exact alarmKeeps_trans hseen ⟨rfl, rfl, rfl, fun _ => ⟨rfl, rfl⟩⟩
    · exact alarmKeeps_trans hseen ⟨rfl, rfl, rfl, fun _ => ⟨rfl, rfl⟩⟩

theorem alarmKeeps_conditionFound {s : State} (h : s.passage.passages = []) (i : Fin 4) :
    alarmKeeps s (conditionFound s i) := by
  unfold conditionFound
  split
  · exact alarmKeeps_conditionOccurred h i
  · exact alarmKeeps_rfl s

/-- The levels found are taken, and with no passage pending no condition touches counts or accounts. -/
theorem levelsFound_keeps {s : State} (h : s.passage.passages = []) (levels : Levels) :
    (levelsFound s levels).charge = s.charge ∧ (levelsFound s levels).passage = s.passage ∧
    ((levelsFound s levels).cards.map fun e => (e.data, e.presence, e.stamp)) =
      s.cards.map (fun e => (e.data, e.presence, e.stamp)) ∧
    ∀ i : Fin 4, (levelsFound s levels).muster.inputs[i].level = levels[i] ∧
      (levelsFound s levels).muster.inputs[i].mode = s.muster.inputs[i].mode := by
  have hnext : ∀ {t : State} (i : Fin 4), t.passage.passages = [] →
      alarmKeeps t (conditionFound t i) ∧ (conditionFound t i).passage.passages = [] := fun i ht =>
    ⟨alarmKeeps_conditionFound ht i, by rw [(alarmKeeps_conditionFound ht i).2.1, ht]⟩
  unfold levelsFound
  dsimp only
  obtain ⟨h0, hp0⟩ := hnext (t := { s with muster := { s.muster with
    inputs := Vector.ofFn fun i => { s.muster.inputs[i] with level := levels[i] } } }) 0 h
  obtain ⟨h1, hp1⟩ := hnext 1 hp0
  obtain ⟨h2, hp2⟩ := hnext 2 hp1
  obtain ⟨h3, -⟩ := hnext 3 hp2
  obtain ⟨hcharge, hpassage, hcards, hinputs⟩ := alarmKeeps_trans (alarmKeeps_trans (alarmKeeps_trans h0 h1) h2) h3
  refine ⟨hcharge, hpassage, hcards, fun i => ?_⟩
  rw [(hinputs i).1, (hinputs i).2]
  simp

/-! ## The accounts at a warm restart (R69, R87) -/

section Tables
variable {α β : Type} {key : α → Nat}

/-- An entry that takes the place of one of its key is seen in a map as that one where they agree. -/
theorem map_put_of_lookup {f : α → β} {x y : α} (hf : f x = f y) :
    ∀ {t : List α}, ascending key t = true → lookup key (key x) t = some y → (put key x t).map f = t.map f
  | [], _, h => nomatch h
  | z :: zs, hasc, h => by
    obtain ⟨hrest, hbelow⟩ := ascending_cons key hasc
    by_cases hz : key x = key z
    · have hzy : z = y := by
        have hfound : lookup key (key x) (z :: zs) = some z := List.find?_cons_of_pos (by simp [hz])
        exact Option.some_inj.1 (hfound.symm.trans h)
      rw [put, if_neg (by omega), if_pos hz, List.map_cons, List.map_cons, hf, hzy]
    · have hlater : lookup key (key x) zs = some y := by
        rw [← h]
        exact (List.find?_cons_of_neg (by simpa using Ne.symm hz)).symm
      have hless : ¬key x < key z := by
        have hmem := hbelow y (lookup_some_mem key hlater)
        rw [lookup_some_key key hlater] at hmem
        omega
      rw [put, if_neg hless, if_neg hz, List.map_cons, List.map_cons, map_put_of_lookup hf hrest hlater]

end Tables

/-- An account as a warm restart must keep it: all but its held total and what was spent on the day. -/
def settledAccount (a : Account) : Account := { a with dailySpent := 0, heldTotal := 0 }

/-- The holds' ends keep the invariant and each account but for its held total. -/
theorem accounts_lapseAll {s : State} (h : s.accountsKept) :
    (lapseAll s.charge.holds s).accountsKept ∧
      (lapseAll s.charge.holds s).charge.accounts.map settledAccount = s.charge.accounts.map settledAccount := by
  refine lapseAll_keeps (P := fun t => t.accountsKept ∧
    t.charge.accounts.map settledAccount = s.charge.accounts.map settledAccount) ?_ s.charge.holds
    (tags_nodup_of_accountsKept h) (fun _ hx => hx) ⟨h, rfl⟩
  intro t x hx ⟨hkept, hsame⟩
  refine ⟨accountsKept_endHold .lapsed x.amount hx (Nat.zero_le _) hkept, ?_⟩
  rw [endHold_eq_holdEnded, ← hsame]
  obtain ⟨a, ha⟩ := Option.isSome_iff_exists.1 (account?_isSome_of_accountsKept hkept hx)
  simp only [holdEnded, ha]
  obtain ⟨hasc, -⟩ := hkept
  refine map_put_of_lookup (f := settledAccount) (y := a) ?_ hasc ?_
  · rfl
  · rw [State.account?_number ha]
    exact ha

/-- After the holds' ends no account holds anything. -/
theorem heldTotal_of_no_holds {s : State} (h : s.accountsKept) (hnone : s.charge.holds = []) :
    ∀ a ∈ s.charge.accounts, a.heldTotal = 0 := by
  obtain ⟨-, -, -, -, haccounts⟩ := h
  intro a ha
  rw [(haccounts a ha).1, ChargeUnit.heldBy, ChargeUnit.holdsOf, hnone]
  rfl

/-! ## The warm restart (R42, R64, R87, R122, R141, R157, R188) -/

theorem warmRestart_stages (s : State) (cause : RestartCause) (levels : Levels) :
    s.warmRestart cause levels =
      withEvent (levelsFound (comparedWith (workEnded (workDiscarded s cause))
          (s.engine.voyage.time.map (boundaryAfter s.engine.profile.dayBoundaryHour))) levels)
        { kind := .restart, detail := some (.passages s.passage.passages.length) } := by
  have hcompare : (workEnded (workDiscarded s cause)).compareAtRestart = comparedWith (workEnded (workDiscarded s cause))
      (s.engine.voyage.time.map (boundaryAfter s.engine.profile.dayBoundaryHour)) := by
    rw [compareAtRestart_eq_comparedWith, engine_workEnded]
    rfl
  unfold State.warmRestart
  dsimp only
  rw [discardWork_eq_workDiscarded, workEnded_eq, hcompare, takeLevels_eq_levelsFound]
  rfl

/-- The ends of every hold and passage: what they leave of the Charge and Passage Units (R87, R122). -/
theorem workEnded_frame (s : State) : ∃ accounts, workEnded s = { s with
      charge := { accounts := accounts, holds := [], lastTag := s.charge.lastTag,
                  journal := s.charge.journal ++ lapsedRecords s
                  lastNumber := s.charge.lastNumber + s.charge.holds.length }
      passage := { s.passage with passages := [] } } ∧
    (s.accountsKept → (∀ a ∈ accounts, a.heldTotal = 0) ∧
      accounts.map settledAccount = s.charge.accounts.map settledAccount) := by
  obtain ⟨accounts, hlapse⟩ := charge_lapseAll s.charge.holds s
  have hnone := holds_lapseAll s
  rw [hlapse] at hnone
  refine ⟨accounts, ?_, fun hkept => ?_⟩
  · rw [← workEnded_eq, hlapse, show (s.charge.holds.filter fun y => s.charge.holds.all fun x => y.tag != x.tag) = []
      from hnone]
    rfl
  · obtain ⟨hsound, hsame⟩ := accounts_lapseAll hkept
    have hzero := heldTotal_of_no_holds hsound (holds_lapseAll s)
    rw [hlapse] at hsame hzero
    exact ⟨hzero, hsame⟩

/-- What the ends of holds and passages, and then the comparison of the clock, leave of the Charge Unit. -/
def chargeEnded (a b : State) : Prop :=
  b.charge.holds = [] ∧ b.charge.journal = a.charge.journal ++ lapsedRecords a ∧
    b.charge.lastNumber = a.charge.lastNumber + a.charge.holds.length ∧ b.charge.lastTag = a.charge.lastTag ∧
    (a.accountsKept → (∀ x ∈ b.charge.accounts, x.heldTotal = 0) ∧
      b.charge.accounts.map settledAccount = a.charge.accounts.map settledAccount)

theorem chargeEnded_of_frames {s w d : State} {accounts : List Account}
    (hw : w.charge = { accounts := accounts, holds := [], lastTag := s.charge.lastTag,
                       journal := s.charge.journal ++ lapsedRecords s
                       lastNumber := s.charge.lastNumber + s.charge.holds.length })
    (haccounts : s.accountsKept → (∀ a ∈ accounts, a.heldTotal = 0) ∧
      accounts.map settledAccount = s.charge.accounts.map settledAccount)
    (hd : d.charge = w.charge ∨
      d.charge = { w.charge with accounts := w.charge.accounts.map fun x => { x with dailySpent := 0 } }) :
    chargeEnded s d := by
  rw [hw] at hd
  unfold chargeEnded
  rcases hd with h | h <;> rw [h]
  · exact ⟨rfl, rfl, rfl, rfl, haccounts⟩
  · refine ⟨rfl, rfl, rfl, rfl, fun hkept => ?_⟩
    obtain ⟨hzero, hsame⟩ := haccounts hkept
    refine ⟨fun a ha => ?_, List.map_map.trans hsame⟩
    obtain ⟨b, hb, rfl⟩ := List.mem_map.1 ha
    exact hzero b hb

/-- The state before the levels are taken, from the one in which the work was discarded. -/
theorem endedAndCompared_frame (s : State) (boundary : Option DateTime) :
    let d := comparedWith (workEnded s) boundary
    chargeEnded s d ∧ d.cards = s.cards ∧ d.muster = s.muster ∧
      ∃ port, d.passage = { s.passage with passages := [], port := port } := by
  obtain ⟨accounts, hended, haccounts⟩ := workEnded_frame s
  obtain ⟨hcards, hmuster, ⟨port, hpassage⟩, hcharge⟩ := clockKeeps_comparedWith (workEnded s) boundary
  exact ⟨chargeEnded_of_frames (by rw [hended]) haccounts hcharge, hcards.trans (by rw [hended]),
    hmuster.trans (by rw [hended]), port, hpassage.trans (by rw [hended])⟩

/-- The outcome of a warm restart, stage by stage, and what the stages come to. -/
theorem warmRestarted_warmRestart (s : State) (cause : RestartCause) (levels : Levels) :
    warmRestarted s (s.warmRestart cause levels) cause levels := by
  rw [warmRestart_stages]
  generalize hboundary : s.engine.voyage.time.map (boundaryAfter s.engine.profile.dayBoundaryHour) = boundary
  obtain ⟨hcharge, hcards, hmuster, port, hpassage⟩ := endedAndCompared_frame (workDiscarded s cause) boundary
  have hcompared := clockCompared_comparedWith (workEnded (workDiscarded s cause)) boundary
  generalize comparedWith (workEnded (workDiscarded s cause)) boundary = d at hcharge hcards hmuster hpassage hcompared
  have hnone : d.passage.passages = [] := by rw [hpassage]
  obtain ⟨hchargeFound, hpassageFound, hcardsFound, hinputsFound⟩ := levelsFound_keeps hnone levels
  obtain ⟨hholds, hjournal, hlastNumber, hlastTag, hsettled⟩ := hcharge
  rw [← hchargeFound] at hholds hjournal hlastNumber hlastTag hsettled
  rw [hpassage] at hpassageFound
  generalize hfound : levelsFound d levels = u at *
  have hpassages : u.passage.passages = [] := by rw [hpassageFound]
  have hcounters : u.passage.counters = s.passage.counters := by rw [hpassageFound]; rfl
  have hin : u.passage.untrackedIn = s.passage.untrackedIn := by rw [hpassageFound]; rfl
  have hout : u.passage.untrackedOut = s.passage.untrackedOut := by rw [hpassageFound]; rfl
  refine ⟨⟨d, ?_, by rw [hfound]⟩, hholds, hjournal, hlastNumber, hlastTag, hsettled,
    hpassages, hcounters, hin, hout, ?_, fun i => ?_⟩
  · rw [hboundary]
    exact hcompared
  · exact hcardsFound.trans (by rw [hcards]; rfl)
  · obtain ⟨hlevel, hmode⟩ := hinputsFound i
    exact ⟨hlevel, hmode.trans (by rw [hmuster]; rfl)⟩

/-! ## The rows (R186, R187) -/

theorem coldStart_eq_coldStarted (s : State) (cause : RestartCause) (levels : Levels) :
    s.coldStart cause levels = coldStarted s cause levels := rfl

/-- A Restart is due when its Status has left the frames awaiting transmission (R186). -/
theorem restartDue_eq_some_iff (s : State) (k : RestartKind) : s.restartDue = some k ↔ restartIsDue s k := by
  have hawaits : s.trunk.outgoing.any awaitsRestartStatus = true ↔
      ¬∀ x, OutFrame.status x ∈ s.trunk.outgoing → ¬(x.cls = 1 ∧ x.kind = 34 ∧ x.result = some .ok) := by
    rw [List.any_eq_true]
    push Not
    constructor
    · rintro ⟨f, hf, hawaits⟩
      cases f with
      | status x => exact ⟨x, hf, by simpa [awaitsRestartStatus, and_assoc] using hawaits⟩
      | referral => exact nomatch hawaits
      | throughUp => exact nomatch hawaits
    · rintro ⟨x, hx, hawaits⟩
      exact ⟨_, hx, by simpa [awaitsRestartStatus, and_assoc] using hawaits⟩
  unfold State.restartDue restartIsDue
  split
  case isTrue h => exact iff_of_false (nomatch ·) fun hdue => hawaits.1 h hdue.2
  case isFalse h => exact ⟨fun hk => ⟨hk, not_not.1 (mt hawaits.2 h)⟩, fun hdue => hdue.1⟩

theorem exec_restartBegin {s : State} (hon : s.power.mainOn = true) (levels : Levels) :
    exec (.restartBegin levels) s = .next (match s.restartDue with
      | some .cold => coldStarted s .command levels
      | some .warm => s.warmRestart .command levels
      | none => s) := by
  refine congrArg Host.Outcome.next ((whenOn_of_on hon _).trans ?_)
  rfl

/-- Settles O36, by the option of the Restart that is due. -/
theorem restartBeginRunsTheOption : Obligations.RestartBeginRunsTheOption := by
  intro s levels hon
  rw [exec_restartBegin hon]
  refine ⟨fun hcold => ?_, fun hwarm => ⟨s.warmRestart .command levels, ?_, warmRestarted_warmRestart ..⟩,
    fun hnone => ?_⟩
  · rw [(restartDue_eq_some_iff ..).2 hcold]
  · rw [(restartDue_eq_some_iff ..).2 hwarm]
  · rw [Option.eq_none_iff_forall_ne_some.2 fun k hk => hnone k ((restartDue_eq_some_iff s k).1 hk)]

/-- Settles O37: each power row, by the power and the retention supply it finds. -/
theorem powerRowsChooseTheRestart : Obligations.PowerRowsChooseTheRestart := by
  intro s
  refine ⟨fun hon => ⟨congrArg Host.Outcome.next (whenOn_of_on hon _), congrArg Host.Outcome.next (if_pos hon),
    fun check levels => congrArg Host.Outcome.next (if_pos hon)⟩, fun hoff => ?_⟩
  have hnot : ¬s.power.mainOn = true := ne_true_of_eq_false hoff
  have happlied : ∀ check levels, exec (.mainPowerApplied check levels) s =
      .next (if s.power.retentionValid = false then s.powerUp.coldStart .retentionLost levels
        else if check = false then s.powerUp.coldStart .checkFailed levels
        else s.powerUp.warmRestart .powerReturned levels) := fun check levels =>
    congrArg Host.Outcome.next (if_neg hnot)
  refine ⟨congrArg Host.Outcome.next (whenOn_of_off hoff _), congrArg Host.Outcome.next (if_neg hnot),
    fun hinvalid check levels => ?_, fun hvalid levels => ⟨?_, s.powerUp.warmRestart .powerReturned levels, ?_,
      warmRestarted_warmRestart s.powerUp _ _⟩⟩
  · rw [happlied, if_pos hinvalid]
    rfl
  · rw [happlied, if_neg (by rw [hvalid]; exact Bool.noConfusion)]
    rfl
  · rw [happlied, if_neg (by rw [hvalid]; exact Bool.noConfusion)]
    rfl

/-! ## The carrier (R153, R154, R156) -/

theorem oweAllLost_eq_noticesOfLost (fs : List OutFrame) (s : State) : oweAllLost fs s = noticesOfLost fs s := by
  induction fs generalizing s with
  | nil => rfl
  | cons f fs ih =>
    rw [oweAllLost, ih]
    cases f with
    | status x => rfl
    | referral tag p cause => rfl
    | throughUp st data =>
      refine congrArg (noticesOfLost fs) ?_
      cases hst : s.station? st <;> simp [State.oweLostThrough, hst]

theorem fallbackAll_eq_fallenBack (rs : List Referral) (s : State) : fallbackAll rs s = fallenBack rs s := by
  induction rs generalizing s with
  | nil => rfl
  | cons r rs ih => exact ih _

/-- A notice owed leaves the Referral List. -/
theorem referral_oweNotice (s : State) (st : Station) (n : Notice) : (s.oweNotice st n).referral = s.referral := by
  unfold State.oweNotice
  split
  · rfl
  · dsimp only
    (repeat' split) <;> rfl

theorem referral_noticesOfLost (fs : List OutFrame) (s : State) : (noticesOfLost fs s).referral = s.referral := by
  induction fs generalizing s with
  | nil => rfl
  | cons f fs ih =>
    cases f with
    | status x => exact ih s
    | referral tag p cause => exact ih s
    | throughUp st data =>
      rw [noticesOfLost, ih]
      split
      · exact referral_oweNotice ..
      · rfl

/-- The loss of the trunk, in the stages of the statements. -/
theorem loseTrunk_eq (s : State) :
    s.loseTrunk = fallenBack s.referral.list (noticesOfLost s.trunk.outgoing (withEvent
      { s with trunk := { up := false, carrier := s.trunk.carrier, received := [], silence := 0, outgoing := [] } }
      { kind := .trunkDown })) := by
  unfold State.loseTrunk
  dsimp only
  rw [oweAllLost_eq_noticesOfLost, fallbackAll_eq_fallenBack, referral_noticesOfLost]
  rfl

/-- Settles O38, by the power and the trunk state that the carrier's loss finds. -/
theorem carrierRowsMoveTheTrunk : Obligations.CarrierRowsMoveTheTrunk := by
  intro s
  refine ⟨rfl, fun hoff => ?_, fun hon hdown => ?_, fun hon hup => ?_⟩
  · exact congrArg Host.Outcome.next (whenOn_of_off (s := s.setTrunk { s.trunk with carrier := false }) hoff _)
  · refine congrArg Host.Outcome.next ((whenOn_of_on (s := s.setTrunk { s.trunk with carrier := false }) hon _).trans ?_)
    exact if_neg (ne_true_of_eq_false hdown)
  · refine congrArg Host.Outcome.next ((whenOn_of_on (s := s.setTrunk { s.trunk with carrier := false }) hon _).trans ?_)
    exact (if_pos hup).trans (loseTrunk_eq _)

end Sys2Proof.Proofs

/-! PROOF. Replies of the reader lines: misses, good Replies, Through-up and Test (R27-R33, R38, R41, R45). -/

namespace Sys2Proof.Proofs

open Sys2Proof.Machine Sys2Proof.Claims

/-! ## The ends of exchanges (R28, R35) -/

theorem endExchange_eq_exchangeEnded (x : Line) : x.endExchange = exchangeEnded x :=
  (settleRound_eq { x with exchange := none }).trans (if_pos rfl)

theorem modifyLine_endExchange (s : State) (l : LineNo) :
    s.modifyLine l Line.endExchange = withLine s l (exchangeEnded (s.line l)) := by
  rw [State.modifyLine, endExchange_eq_exchangeEnded]
  rfl

theorem settleIfClear_eq_settledIfClear (x : Line) : x.settleIfClear = settledIfClear x := by
  unfold Line.settleIfClear settledIfClear
  cases x.wait <;> rfl

theorem modifyLine_settleIfClear (s : State) (l : LineNo) :
    s.modifyLine l Line.settleIfClear = withLine s l (settledIfClear (s.line l)) := by
  rw [State.modifyLine, settleIfClear_eq_settledIfClear]
  rfl

theorem raiseCount_eq_raised (n : Nat) : raiseCount n = raised n := by
  unfold raiseCount raised Config.maxWord16
  split <;> omega

/-! ## Misses (R27, R29, R38) -/

theorem makeAbsent_eq_madeAbsent (s : State) (l : LineNo) (r : StationRec) :
    s.makeAbsent l r (r.misses + 1) = madeAbsent s l r := by
  unfold State.makeAbsent madeAbsent
  simp only [modifyLine_settleIfClear, abandonPassage_eq_passageAbandoned, isGate_iff]
  rfl

/-- The exchange on a line ends as a miss. -/
theorem endInMiss_eq_missTaken (s : State) (l : LineNo) (e : Exchange) : s.endInMiss l e = missTaken s l e := by
  unfold State.endInMiss missTaken
  rw [modifyLine_endExchange]
  dsimp only
  cases htaken : e.taken with
  | false => rfl
  | true =>
    rw [if_pos rfl, if_neg Bool.noConfusion]
    generalize withLine s l (exchangeEnded (s.line l)) = t
    cases t.station? { line := l, addr := e.addr } with
    | none => rfl
    | some r =>
      dsimp only
      unfold State.missStation
      cases r.state with
      | outOfService => rw [raiseCount_eq_raised]
      | absent => rfl
      | present =>
        dsimp only
        by_cases hlimit : r.misses + 1 < t.engine.profile.missLimit
        · rw [if_pos hlimit, if_neg (Nat.not_le.2 hlimit)]
        · rw [if_neg hlimit, if_pos (Nat.not_lt.1 hlimit), makeAbsent_eq_madeAbsent]

theorem missOn_of_exchange {s : State} {l : LineNo} {e : Exchange} (h : (s.line l).exchange = some e) :
    s.missOn l = missTaken s l e := by
  rw [State.missOn, h]
  exact endInMiss_eq_missTaken s l e

theorem missOn_of_no_exchange {s : State} {l : LineNo} (h : (s.line l).exchange = none) : s.missOn l = s := by
  rw [State.missOn, h]

/-! ## Replies to the exchange on a line (R27, R28) -/

section
variable {s : State} {st : Station} (allowed : StationRec → Bool) (inTest : State → StationRec → State)
  (good : State → StationRec → Exchange → State)

theorem takeReply_of_no_exchange (h : (s.line st.line).exchange = none) : s.takeReply st allowed inTest good = s := by
  rw [State.takeReply, h]

/-- A Reply that its line does not await ends the exchange as a miss. -/
theorem takeReply_of_unawaited {e : Exchange} (h : (s.line st.line).exchange = some e)
    (hnot : e.taken = false ∨ e.addr ≠ st.addr ∨ s.station? st = none) :
    s.takeReply st allowed inTest good = missTaken s st.line e := by
  rw [State.takeReply, h, ← endInMiss_eq_missTaken]
  dsimp only
  by_cases hother : e.taken = false ∨ e.addr ≠ st.addr
  · rw [if_pos hother]
  · have hremoved : s.station? st = none := by
      rcases hnot with h | h | h
      · exact absurd (.inl h) hother
      · exact absurd (.inr h) hother
      · exact h
    rw [if_neg hother, hremoved]

variable {r : StationRec} {e : Exchange}

/-- A Reply that its line awaits, by the station's state and whether it may send the Reply. -/
theorem takeReply_of_awaits (h : awaits s st r e) :
    s.takeReply st allowed inTest good =
      if r.state = .outOfService then inTest (withLine s st.line (exchangeEnded (s.line st.line))) r
      else if allowed r = true then
        good ((withLine s st.line (exchangeEnded (s.line st.line))).goodReply st.line r e) (r.afterReply e) e
      else missTaken s st.line e := by
  obtain ⟨-, hexchange, htaken, haddr, hr⟩ := h
  have hawaited : ¬(e.taken = false ∨ e.addr ≠ st.addr) := by
    rintro (hnot | hne)
    · exact Bool.false_ne_true (hnot.symm.trans htaken)
    · exact hne haddr
  rw [State.takeReply, hexchange]
  dsimp only
  rw [if_neg hawaited, hr, ← modifyLine_endExchange, ← endInMiss_eq_missTaken]

end

/-- The rows of Replies. -/
theorem exec_of_reply {c : Instr} {s : State} {st : Station} {word : Sensors} {number : Nat} {q : Request}
    {data : List Byte} (hon : s.power.mainOn = true)
    (hc : c ∈ [Instr.idle st word, .request st word number q, .acknowledge st word number, .throughUp st data,
      .echo st data]) :
    ∃ allowed inTest good, exec c s = .next (s.takeReply st allowed inTest good) := by
  simp only [List.mem_cons, List.not_mem_nil, or_false] at hc
  rcases hc with rfl | rfl | rfl | rfl | rfl <;>
    exact ⟨_, _, _, congrArg Host.Outcome.next (whenOn_of_on hon _)⟩

/-- Settles O41, by the exchange that the row finds. -/
theorem missesLeadToAbsence : Obligations.MissesLeadToAbsence := by
  refine ⟨fun s l hon => ?_, fun c s st word number q data hon hc => ?_⟩
  · have hbad : exec (.badReply l) s = .next (s.missOn l) := congrArg Host.Outcome.next (whenOn_of_on hon _)
    have htimeout : exec (.replyTimeout l) s = .next (if (s.line l).replyDue = true then s.missOn l else s) :=
      congrArg Host.Outcome.next (whenOn_of_on hon _)
    rw [hbad, htimeout]
    refine ⟨fun hnone => ?_, fun e he => ?_⟩
    · have hdue : ¬(s.line l).replyDue = true := by rw [Line.replyDue, hnone]; exact Bool.noConfusion
      rw [missOn_of_no_exchange hnone, if_neg hdue]
      exact ⟨rfl, rfl⟩
    · have hdue : (s.line l).replyDue = true ↔ e.left = 0 := by rw [Line.replyDue, he]; exact beq_iff_eq
      rw [missOn_of_exchange he]
      exact ⟨rfl, fun hleft => by rw [if_pos (hdue.2 hleft)], fun hleft => by rw [if_neg (mt hdue.1 hleft)]⟩
  · obtain ⟨allowed, inTest, good, hexec⟩ := exec_of_reply hon hc
    rw [hexec]
    exact ⟨fun hnone => by rw [takeReply_of_no_exchange _ _ _ hnone],
      fun e he hnot => by rw [takeReply_of_unawaited _ _ _ he hnot]⟩

/-! ## Good Replies (R27, R30-R33, R45) -/

theorem afterReply_eq_replied (r : StationRec) (e : Exchange) : r.afterReply e = replied r e := by
  unfold StationRec.afterReply replied
  cases e.content with
  | plain => rfl
  | pending n => rfl
  | notice n => by_cases hlive : e.noticeLive = true <;> simp [hlive]
  | verdict n v =>
    cases r.openRequest with
    | none => simp
    | some q => cases hstate : q.state <;> simp [hstate]
  | through d => rfl
  | test => rfl

theorem goodReply_eq_heard (s : State) (l : LineNo) (r : StationRec) (e : Exchange) :
    (withLine s l (exchangeEnded (s.line l))).goodReply l r e = heard s l r e := by
  unfold State.goodReply heard
  rw [afterReply_eq_replied]
  rfl

theorem takeLockWord_eq_wordTaken (s : State) (st : Station) (r : StationRec) (e : Exchange) (word : Sensors) :
    s.takeLockWord st (r.afterReply e).kind word = wordTaken s st r word := by
  rw [afterReply_eq_replied]
  rfl

/-- A sensor word leaves the lines. -/
theorem lines_takeWord (s : State) (st : Station) (word : Sensors) : (s.takeWord st word).lines = s.lines := by
  unfold State.takeWord State.takeWordFor State.tripWatch
  dsimp only
  (repeat' split) <;> rfl

theorem station?_heard {s : State} {st : Station} {r : StationRec} (e : Exchange) (hr : s.station? st = some r) :
    (heard s st.line r e).station? st = some (replied r e) := by
  rw [← goodReply_eq_heard, ← afterReply_eq_replied, ← modifyLine_endExchange]
  exact station?_goodReply e ((station?_endExchange s st.line st).trans hr)

theorem station?_wordTaken (s : State) (st : Station) (r : StationRec) (word : Sensors) :
    (wordTaken s st r word).station? st = s.station? st := by
  unfold wordTaken
  split
  · unfold State.station? State.line
    rw [lines_takeWord]
  · rfl

theorem oweNotice_eq_owedNotice {s : State} {st : Station} {r : StationRec} (hr : s.station? st = some r) (n : Notice) :
    s.oweNotice st n = owedNotice s st r n := by
  unfold State.oweNotice owedNotice
  rw [hr]
  rfl

section
variable {s : State} {st : Station} {r : StationRec} {e : Exchange} (h : awaits s st r e)
  (hrunning : r.state ≠ .outOfService)
include h hrunning

/-- A good Reply of a line that carries its rounds, from a station that may send it. -/
theorem takeReply_of_good {allowed : StationRec → Bool} (hallowed : allowed r = true)
    (inTest : State → StationRec → State) (good : State → StationRec → Exchange → State) :
    s.takeReply st allowed inTest good = good (heard s st.line r e) (replied r e) e := by
  rw [takeReply_of_awaits allowed inTest good h, if_neg hrunning, if_pos hallowed, goodReply_eq_heard,
    afterReply_eq_replied]

theorem exec_idle (word : Sensors) :
    exec (.idle st word) s = .next (wordTaken (heard s st.line r e) st r word) :=
  congrArg Host.Outcome.next ((whenOn_of_on h.1 _).trans (takeReply_of_good h hrunning rfl _ _))

theorem exec_acknowledge (word : Sensors) (number : Nat) :
    exec (.acknowledge st word number) s = .next (
      let t := wordTaken (heard s st.line r e) st r word
      let closed := t.setStation st.line { replied r e with openRequest := none }
      if closes (replied r e) e number = true then withLine closed st.line (settledIfClear (closed.line st.line))
      else t) := by
  refine congrArg Host.Outcome.next ((whenOn_of_on h.1 _).trans ((takeReply_of_good h hrunning rfl _ _).trans ?_))
  simp only [modifyLine_settleIfClear]
  rfl

theorem exec_request (word : Sensors) (number : Nat) (q : Request) :
    exec (.request st word number q) s = .next
      ((wordTaken (heard s st.line r e) st r word).openRequest st (replied r e) number q) :=
  congrArg Host.Outcome.next ((whenOn_of_on h.1 _).trans (takeReply_of_good h hrunning rfl _ _))

end

/-- A good Reply leaves whether a request is open, and its number. -/
theorem openRequest_replied (r : StationRec) (e : Exchange) :
    (replied r e).openRequest.map OpenRequest.number = r.openRequest.map OpenRequest.number := by
  unfold replied
  cases e.content with
  | verdict n v =>
    cases r.openRequest with
    | none => rfl
    | some q =>
      simp only [Option.map_some]
      split <;> rfl
  | plain => rfl
  | pending n => rfl
  | notice n => rfl
  | through d => rfl
  | test => rfl

/-- An Acknowledge closes the open request of its number when the Poll carried the verdict (R32). -/
theorem closes_replied_iff (r : StationRec) (e : Exchange) (number : Nat) :
    closes (replied r e) e number = true ↔
      (∃ n v, e.content = .verdict n v) ∧ ∃ o, r.openRequest = some o ∧ o.number = number := by
  have hnumber := openRequest_replied r e
  unfold closes
  cases e.content with
  | verdict n v =>
    cases hold : r.openRequest with
    | none =>
      rw [hold, Option.map_none, Option.map_eq_none_iff] at hnumber
      simp [hnumber]
    | some o =>
      rw [hold] at hnumber
      obtain ⟨o', ho', hsame⟩ := Option.map_eq_some_iff.1 hnumber
      simp [ho', hsame]
  | plain => simp
  | pending n => simp
  | notice n => simp
  | through d => simp
  | test => simp

/-- Settles O42, by the Reply and the request that it finds open. -/
theorem goodRepliesAreTaken : Obligations.GoodRepliesAreTaken := by
  intro s st r e word number q h hrunning
  have hr : (wordTaken (heard s st.line r e) st r word).station? st = some (replied r e) := by
    obtain ⟨-, -, -, -, hstation⟩ := h
    exact (station?_wordTaken ..).trans (station?_heard e hstation)
  dsimp only
  rw [exec_idle h hrunning, exec_acknowledge h hrunning, exec_request h hrunning]
  refine ⟨rfl, fun o hverdict ho hnumber => ?_, fun hnot => ?_, fun hopen => ?_, fun hnone => ?_⟩
  · exact congrArg Host.Outcome.next (if_pos ((closes_replied_iff r e number).2 ⟨hverdict, o, ho, hnumber⟩))
  · refine congrArg Host.Outcome.next (if_neg ?_)
    rw [closes_replied_iff]
    rintro ⟨⟨n, v, hverdict⟩, o, ho, hnumber⟩
    rcases hnot with hnot | hnot
    · exact hnot n v hverdict
    · exact hnot o ho hnumber
  · have hsome : (replied r e).openRequest ≠ none := by
      rw [ne_eq, ← Option.map_eq_none_iff (f := OpenRequest.number), openRequest_replied, Option.map_eq_none_iff]
      exact hopen
    obtain ⟨o, ho⟩ := Option.ne_none_iff_exists'.1 hsome
    rw [State.openRequest, ho]
    exact congrArg Host.Outcome.next (oweNotice_eq_owedNotice hr _)
  · have hnone' : (replied r e).openRequest = none := by
      rw [← Option.map_eq_none_iff (f := OpenRequest.number), openRequest_replied, hnone]
      rfl
    rw [State.openRequest, hnone']
    rfl

/-! ## Through-up, and Replies in Test (R38, R41, R156) -/

theorem mayThroughUp_iff (data : List Byte) (r : StationRec) :
    mayThroughUp data r = true ↔ r.kind = .through ∧ 1 ≤ data.length ∧ data.length ≤ 64 := by
  rw [mayThroughUp, Bool.and_eq_true, beq_iff_eq, inRange_eq_true_iff]
  rfl

theorem trunk_heard (s : State) (l : LineNo) (r : StationRec) (e : Exchange) : (heard s l r e).trunk = s.trunk := by
  unfold heard
  dsimp only
  split <;> rfl

theorem failEcho_eq_echoFailed (s : State) (l : LineNo) (r : StationRec) :
    failEcho l (withLine s l (exchangeEnded (s.line l))) r = echoFailed s l r := by
  rw [failEcho, raiseCount_eq_raised]
  rfl

theorem station?_echoFailed {s : State} {st : Station} {r : StationRec} (hr : s.station? st = some r) :
    (echoFailed s st.line r).station? st = some { r with echoFailed := raised r.echoFailed } := by
  obtain ⟨line, addr⟩ := st
  have haddr : r.addr = addr := State.station?_addr hr
  subst haddr
  exact State.station?_setStation_self (withLine s line (exchangeEnded (s.line line))) line
    { r with echoFailed := raised r.echoFailed }

/-- Settles O43, by whether the line is in Test, and in Test by the Reply. -/
theorem throughUpAndTestReplies : Obligations.ThroughUpAndTestReplies := by
  intro s st r e word number q data h
  obtain ⟨hon, hexchange, htaken, haddr, hr⟩ := id h
  refine ⟨fun hrunning => ⟨fun hkind hlow hhigh => ?_, fun hbad => ?_, ?_⟩, fun htest => ?_⟩
  · have hexec : exec (.throughUp st data) s = .next (
        if (heard s st.line r e).trunk.up = true then (heard s st.line r e).send (.throughUp st data)
        else (heard s st.line r e).oweNotice st { reason := .outOfService, number := none }) :=
      congrArg Host.Outcome.next ((whenOn_of_on hon _).trans
        (takeReply_of_good h hrunning ((mayThroughUp_iff data r).2 ⟨hkind, hlow, hhigh⟩) _ _))
    rw [hexec, trunk_heard]
    refine ⟨fun hup => ?_, fun hdown => ?_⟩
    · rw [if_pos hup]
      exact congrArg Host.Outcome.next (if_pos (by rwa [trunk_heard]))
    · rw [if_neg (ne_true_of_eq_false hdown)]
      exact congrArg Host.Outcome.next (oweNotice_eq_owedNotice (station?_heard e hr) _)
  · refine congrArg Host.Outcome.next ((whenOn_of_on hon _).trans ((takeReply_of_awaits _ _ _ h).trans ?_))
    rw [if_neg hrunning]
    refine if_neg ?_
    rw [mayThroughUp_iff]
    rintro ⟨hkind, hlow, hhigh⟩
    rcases hbad with hne | hzero | hlong
    · exact hne hkind
    · omega
    · omega
  · refine congrArg Host.Outcome.next ((whenOn_of_on hon _).trans ((takeReply_of_awaits _ _ _ h).trans ?_))
    rw [if_neg hrunning]
    rfl
  · have hfail : ∀ allowed good, s.takeReply st allowed (failEcho st.line) good = echoFailed s st.line r :=
      fun allowed good => by rw [takeReply_of_awaits allowed _ good h, if_pos htest, failEcho_eq_echoFailed]
    have hecho : exec (.echo st data) s = .next (if data = testPattern then
        (withLine s st.line (exchangeEnded (s.line st.line))).setStation st.line { r with echoGood := raised r.echoGood }
        else echoFailed s st.line r) := by
      refine congrArg Host.Outcome.next ((whenOn_of_on hon _).trans ((takeReply_of_awaits _ _ _ h).trans ?_))
      rw [if_pos htest, raiseCount_eq_raised, failEcho_eq_echoFailed]
    refine ⟨?_, ?_, ?_, ?_, fun hpattern => ?_, fun hpattern => ?_⟩
    · exact congrArg Host.Outcome.next ((whenOn_of_on hon _).trans (hfail _ _))
    · exact congrArg Host.Outcome.next ((whenOn_of_on hon _).trans (hfail _ _))
    · exact congrArg Host.Outcome.next ((whenOn_of_on hon _).trans (hfail _ _))
    · refine congrArg Host.Outcome.next ((whenOn_of_on hon _).trans ((takeReply_of_awaits _ _ _ h).trans ?_))
      rw [if_pos htest, failEcho_eq_echoFailed]
      exact oweNotice_eq_owedNotice (station?_echoFailed hr) _
    · rw [hecho]
      exact congrArg Host.Outcome.next (if_pos hpattern)
    · rw [hecho]
      exact congrArg Host.Outcome.next (if_neg hpattern)

end Sys2Proof.Proofs

/-! PROOF. Line settings and line test (R35-R37, R39). -/

namespace Sys2Proof.Proofs

open Sys2Proof.Machine Sys2Proof.Claims

/-! ## LINE_SETTINGS (R35, R36) -/

theorem readLineSettings_of_speed {speed : Nat} {sp : Speed} (h : readSpeed speed = some sp) (reply settle : Nat) :
    readLineSettings speed reply settle =
      if 2 ≤ reply ∧ reply ≤ 50 ∧ 10 ≤ settle ∧ settle ≤ 500 then
        some { speed := sp, replyTimeout := reply, settle := settle } else none := by
  rw [readLineSettings, h]
  refine if_congr ?_ rfl rfl
  rw [Bool.and_eq_true, inRange_eq_true_iff, inRange_eq_true_iff, and_assoc]

theorem finishCommand_eq_commandEnded (s : State) (result : ExecResult) :
    s.finishCommand result = commandEnded s result := by
  unfold State.finishCommand commandEnded
  cases s.engine.state <;> rfl

/-- LINE_SETTINGS taken on a line with settings in their ranges, by the line's state (R35). -/
theorem setLineSettings_of_read {s : State} {line speed reply settle : Nat} {l : LineNo} {new : LineSettings}
    (hl : readLine line = some l) (hnew : readLineSettings speed reply settle = some new) :
    setLineSettings s line speed reply settle =
      if (s.line l).state = .test ∨ (s.line l).state = .settling then (s, some .busy)
      else if (s.line l).state = .stopped then (withLine s l { s.line l with settings := new }, some .ok)
      else if (s.line l).stations.any fun r => r.openRequest.isSome then
        (withLine s l { s.line l with
          wait := some { settings := new, left := s.engine.profile.loadGapTimeout * 1000 } }, none)
      else (withLine s l (settling (s.line l) new), none) := by
  unfold setLineSettings
  rw [hl, hnew]
  dsimp only
  split
  case h_1 htest => rw [if_pos (.inl htest)]
  case h_2 hsettling => rw [if_pos (.inr hsettling)]
  case h_3 hstopped =>
    rw [if_neg (by simp [hstopped]), if_pos hstopped]
    rfl
  case h_4 hrunning =>
    have hcarries : ¬((s.line l).state = .test ∨ (s.line l).state = .settling) := by simp [hrunning]
    have hstarted : ¬(s.line l).state = .stopped := by simp [hrunning]
    rw [if_neg hcarries, if_neg hstarted]
    rfl

theorem exec_lineSettings {s : State} (hs : takes s) (tag line speed reply settle : Nat) :
    exec (.lineSettings tag line speed reply settle) s = .next (
      match (setLineSettings (up s) line speed reply settle).2 with
      | some result => (setLineSettings (up s) line speed reply settle).1.answer 1 5 tag result .none
      | none => (setLineSettings (up s) line speed reply settle).1.setEngineState (.executing 5 tag)) :=
  congrArg Host.Outcome.next ((engineFrame_of_takes hs 1 5 tag _).trans rfl)

/-- Settles O46, by the settings as they are read and the line's state. -/
theorem lineSettingsTakeHoldWhenClear : Obligations.LineSettingsTakeHoldWhenClear := by
  refine ⟨fun s tag line speed reply settle hs => ?_, fun s l hon => ?_⟩
  · rw [exec_lineSettings hs]
    refine congrArg Host.Outcome.next ?_
    dsimp only
    have hrefused : setLineSettings (up s) line speed reply settle = (up s, some .parameter) →
        (match (setLineSettings (up s) line speed reply settle).2 with
          | some result => (setLineSettings (up s) line speed reply settle).1.answer 1 5 tag result .none
          | none => (setLineSettings (up s) line speed reply settle).1.setEngineState (.executing 5 tag)) =
          withStatus (up s) 1 5 tag .parameter := fun h => by
      rw [h]
      exact answer_of_up (trunk_up_up s) ..
    cases hl : readLine line with
    | none => exact hrefused (by rw [setLineSettings, hl])
    | some l =>
      cases hspeed : readSpeed speed with
      | none => exact hrefused (by rw [setLineSettings, hl, readLineSettings, hspeed])
      | some sp =>
        have hread := readLineSettings_of_speed hspeed reply settle
        dsimp only
        by_cases hrange : 2 ≤ reply ∧ reply ≤ 50 ∧ 10 ≤ settle ∧ settle ≤ 500
        · rw [if_pos hrange] at hread
          rw [if_neg (not_not.2 hrange), setLineSettings_of_read hl hread]
          split_ifs
          · exact answer_of_up (trunk_up_up s) ..
          · exact answer_of_up (s := withLine (up s) l _) (trunk_up_up s) ..
          · rfl
          · rfl
        · rw [if_neg hrange] at hread
          rw [if_pos hrange]
          exact hrefused (by rw [setLineSettings, hl, hread])
  · have hsettle : exec (.settleIntervalEnd l) s = .next (
        if (s.line l).state = .settling ∧ (s.line l).settleLeft = 0 then
          commandEnded (withLine s l { s.line l with state := .running, round := none, roundCount := 0 }) .ok
        else s) := by
      refine congrArg Host.Outcome.next ((whenOn_of_on hon _).trans ?_)
      rw [finishCommand_eq_commandEnded]
      rfl
    have hwait : exec (.lineSettingsWaitTimeout l) s = .next (
        if (s.line l).waitDue = true then
          commandEnded (withLine s l { s.line l with wait := none, round := none }) .busy
        else s) := by
      refine congrArg Host.Outcome.next ((whenOn_of_on hon _).trans ?_)
      rw [finishCommand_eq_commandEnded]
      rfl
    dsimp only
    rw [hsettle, hwait]
    refine ⟨fun hstate hleft => by rw [if_pos ⟨hstate, hleft⟩], fun hnot => ?_, fun w hw hleft => ?_, fun hnot => ?_⟩
    · rw [if_neg]
      rintro ⟨hstate, hleft⟩
      exact hnot.elim (· hstate) (· hleft)
    · rw [if_pos]
      rw [Line.waitDue, hw]
      exact beq_iff_eq.2 hleft
    · rw [if_neg]
      rw [Line.waitDue]
      cases hw : (s.line l).wait with
      | none => exact Bool.noConfusion
      | some w => exact fun hdue => hnot w hw (beq_iff_eq.1 hdue)

/-! ## LINE_TEST_START and LINE_TEST_END (R37, R39) -/

theorem trunk_startLineTest (s : State) (line : Nat) : (startLineTest s line).1.trunk = s.trunk := by
  unfold startLineTest
  (repeat' split) <;> rfl

theorem trunk_endLineTest (s : State) (line : Nat) : (endLineTest s line).1.trunk = s.trunk := by
  unfold endLineTest
  (repeat' split) <;> rfl

/-- Settles O47, by the line that is read and its state. -/
theorem lineTestStartsAndEnds : Obligations.LineTestStartsAndEnds := by
  intro s tag line hs
  have hstart : exec (.lineTestStart tag line) s = .next (answered 6 tag (bare (startLineTest (up s) line))) :=
    congrArg Host.Outcome.next (command_of_takes hs 6 tag _
      ((congrArg TrunkPort.up (trunk_startLineTest (up s) line)).trans (trunk_up_up s)))
  have hend : exec (.lineTestEnd tag line) s = .next (answered 7 tag (endLineTest (up s) line)) :=
    congrArg Host.Outcome.next (command_of_takes hs 7 tag _
      ((congrArg TrunkPort.up (trunk_endLineTest (up s) line)).trans (trunk_up_up s)))
  dsimp only
  rw [hstart, hend]
  refine ⟨congrArg (fun r => Host.Outcome.next (answered 6 tag r)) ?_,
    congrArg (fun r => Host.Outcome.next (answered 7 tag r)) ?_⟩
  · unfold startLineTest
    cases readLine line with
    | none => rfl
    | some l =>
      dsimp only
      cases ((up s).line l).state <;>
        simp only [reduceCtorEq, or_self, or_true, true_or, if_true, if_false, apply_ite bare] <;> rfl
  · unfold endLineTest
    cases readLine line <;> rfl

end Sys2Proof.Proofs

/-! PROOF. Cabin Write (R59, R61, R62). -/

namespace Sys2Proof.Proofs

open Sys2Proof.Machine Sys2Proof.Claims

/-! ## The parts as they are read (R61) -/

theorem readPart_eq_none_iff {α β : Type} (read : α → Option β) (part : Option α) :
    readPart read part = none ↔ ∃ v ∈ part, read v = none := by
  cases part <;> simp [readPart]

theorem readLockOutPart_eq_none_iff (v : Nat) : readLockOutPart v = none ↔ v ≠ 1 ∧ v ≠ 2 := by
  unfold readLockOutPart
  split <;> simp_all

theorem readTamper_eq_none_iff (v : Nat) : readTamper v = none ↔ v ≠ 1 ∧ v ≠ 2 := by
  unfold readTamper
  split <;> simp_all

theorem readSensorSet_eq_none_iff (v : Nat) : readSensorSet v = none ↔ 16 ≤ v := by
  unfold readSensorSet
  split <;> simp_all

theorem readWatchPart_eq_none_iff (w : Nat × Nat) : readWatchPart w = none ↔ 16 ≤ w.1 ∨ 16 ≤ w.2 := by
  rw [← readSensorSet_eq_none_iff, ← readSensorSet_eq_none_iff]
  unfold readWatchPart
  cases readSensorSet w.1 <;> cases readSensorSet w.2 <;> simp

theorem readWatchPart_of_read {p m : Nat} {pattern mask : Sensors} (hp : readSensorSet p = some pattern)
    (hm : readSensorSet m = some mask) : readWatchPart (p, m) = some (pattern, mask) := by
  rw [readWatchPart, hp, hm]

/-- The lock-out part, Set or Lift, as read. -/
theorem readPart_lockOut {lockOut : Option Nat} (h : ∀ v ∈ lockOut, v = 1 ∨ v = 2) :
    readPart readLockOutPart lockOut = some (lockOut.map (· == 1)) := by
  cases lockOut with
  | none => rfl
  | some v => rcases h v rfl with rfl | rfl <;> rfl

/-- The tamper part as read. -/
theorem readPart_tamper {tamper : Option Nat} (h : ∀ v ∈ tamper, v = 1 ∨ v = 2) :
    readPart readTamper tamper =
      some (tamper.map fun v => if v = 1 then TamperAction.none else TamperAction.lockOut) := by
  cases tamper with
  | none => rfl
  | some v => rcases h v rfl with rfl | rfl <;> rfl

/-! ## One part applied -/

theorem cabin?_put (s : State) (c : Cabin) :
    State.cabin? { s with cabins := put Cabin.key c s.cabins } c.data.number = some c :=
  lookup_put_self Cabin.key c s.cabins

theorem isLockedOut_iff (l : LockState) : l.isLockedOut = true ↔ ∃ h, l = .lockedOut h := by
  cases l <;> simp [LockState.isLockedOut]

theorem writeLockOut_eq_lockOutWritten (s : State) (c : Cabin) (set : Bool) :
    s.writeLockOut c set = lockOutWritten s c set := by
  unfold State.writeLockOut lockOutWritten
  cases set <;> cases c.lockState <;> rfl

/-- The cabin after the lock-out part. -/
def lockOutCabin (c : Cabin) : Option Nat → Cabin
  | none => c
  | some v =>
    if v = 1 then { c with lockState := .lockedOut .command }
    else { c with lockState := if c.lockState.isLockedOut then .secured else c.lockState }

/-- The state after the lock-out part. -/
def lockOutState (s : State) (c : Cabin) : Option Nat → State
  | none => s
  | some v => lockOutWritten s c (v == 1)

theorem cabin?_lockOutState {s : State} {n : Nat} {c : Cabin} (hc : s.cabin? n = some c) (lockOut : Option Nat) :
    (lockOutState s c lockOut).cabin? n = some (lockOutCabin c lockOut) := by
  obtain rfl : c.data.number = n := lookup_some_key Cabin.key hc
  cases lockOut with
  | none => exact hc
  | some v =>
    by_cases hv : v = 1
    · subst hv
      have hput := cabin?_put s { c with lockState := .lockedOut .command }
      cases hlock : c.lockState <;> simp only [lockOutState, lockOutCabin, lockOutWritten, beq_self_eq_true, hlock] <;>
        exact hput
    · have hset : (v == 1) = false := beq_false_of_ne hv
      have hput := cabin?_put s { c with lockState := .secured }
      obtain ⟨data, lockState, windowEnd, overrideEnd, lastWord, watch, privacy, trail⟩ := c
      simp only [lockOutState, lockOutCabin, hset, if_neg hv]
      cases lockState with
      | secured => exact hc
      | openWindow => exact hc
      | lockedOut h => exact hput

/-- The cabin of a number is replaced by what a part makes of it. -/
theorem modifyCabin_of_cabin {s : State} {n : Nat} {c : Cabin} (hc : s.cabin? n = some c) (f : Cabin → Cabin) :
    s.modifyCabin n f = { s with cabins := put Cabin.key (f c) s.cabins } := by
  rw [State.modifyCabin, hc]
  rfl

/-! ## CABIN_WRITE (R61, R62) -/

theorem trunk_writeLockOut (s : State) (c : Cabin) (set : Bool) : (s.writeLockOut c set).trunk = s.trunk := by
  unfold State.writeLockOut
  (repeat' split) <;> rfl

theorem trunk_modifyCabin (s : State) (n : Nat) (f : Cabin → Cabin) : (s.modifyCabin n f).trunk = s.trunk := by
  unfold State.modifyCabin
  split <;> rfl

theorem trunk_writeCabin (s : State) (n : Nat) (lockOut : Option Nat) (watch : Option (Nat × Nat))
    (tamper : Option Nat) : (writeCabin s n lockOut watch tamper).1.trunk = s.trunk := by
  unfold writeCabin
  dsimp only
  (repeat' split) <;> simp only [trunk_writeLockOut, trunk_modifyCabin]

theorem exec_cabinWrite {s : State} (hs : takes s) (tag n : Nat) (lockOut : Option Nat) (watch : Option (Nat × Nat))
    (tamper : Option Nat) : exec (.cabinWrite tag n lockOut watch tamper) s =
      .next (answered 15 tag (bare (writeCabin (up s) n lockOut watch tamper))) :=
  congrArg Host.Outcome.next (command_of_takes hs 15 tag _
    ((congrArg TrunkPort.up (trunk_writeCabin (up s) n lockOut watch tamper)).trans (trunk_up_up s)))

theorem writeCabin_of_unread {lockOut : Option Nat} {watch : Option (Nat × Nat)} {tamper : Option Nat}
    (h : readPart readLockOutPart lockOut = none ∨ readPart readWatchPart watch = none ∨ readPart readTamper tamper = none)
    (s : State) (n : Nat) : writeCabin s n lockOut watch tamper = (s, .parameter) := by
  unfold writeCabin
  split
  case h_1 hlo hwa hta => rcases h with h | h | h <;> simp_all
  case h_2 => rfl

/-- The watch part is applied (R59, R62). -/
def watchState (s : State) (n : Nat) : Option (Sensors × Sensors) → State
  | none => s
  | some (pattern, mask) => s.modifyCabin n fun c => c.writeWatch pattern mask

/-- The tamper part is applied (R62). -/
def tamperState (s : State) (n : Nat) : Option TamperAction → State
  | none => s
  | some a => s.modifyCabin n fun c => c.writeTamper a

/-- The parts read, on a cabin that is there. -/
theorem writeCabin_of_read {s : State} {n : Nat} {lockOut : Option Nat} {watch : Option (Nat × Nat)}
    {tamper : Option Nat} {wa : Option (Sensors × Sensors)} (hn : 1 ≤ n ∧ n ≤ 9999)
    (hsome : ¬(lockOut = none ∧ watch = none ∧ tamper = none)) (hlo : ∀ v ∈ lockOut, v = 1 ∨ v = 2)
    (hwa : readPart readWatchPart watch = some wa) (hta : ∀ v ∈ tamper, v = 1 ∨ v = 2) :
    (s.cabin? n = none → writeCabin s n lockOut watch tamper = (s, .notFound)) ∧
    (∀ c, s.cabin? n = some c → writeCabin s n lockOut watch tamper =
      (tamperState (watchState (lockOutState s c lockOut) n wa) n
        (tamper.map fun v => if v = 1 then TamperAction.none else TamperAction.lockOut), .ok)) := by
  have hgiven : ¬(inRange 1 Config.maxCabinNumber n = false ∨ ((lockOut.map (· == 1)).isNone = true ∧ wa.isNone = true ∧
      (tamper.map fun v => if v = 1 then TamperAction.none else TamperAction.lockOut).isNone = true)) := by
    have hrange : inRange 1 Config.maxCabinNumber n = true := (inRange_eq_true_iff ..).2 hn
    rintro (hout | ⟨hlo, hwa', hta⟩)
    · exact Bool.false_ne_true (hout.symm.trans hrange)
    · refine hsome ⟨by simpa using hlo, ?_, by simpa using hta⟩
      rw [Option.isNone_iff_eq_none] at hwa'
      subst hwa'
      cases watch with
      | none => rfl
      | some w => simp [readPart] at hwa
  unfold writeCabin
  rw [readPart_lockOut hlo, hwa, readPart_tamper hta]
  dsimp only
  rw [if_neg hgiven]
  refine ⟨fun hnone => by rw [hnone], fun c hc => ?_⟩
  rw [hc]
  cases lockOut <;> cases wa <;> cases tamper <;>
    simp only [Option.map_none, Option.map_some, writeLockOut_eq_lockOutWritten] <;> rfl

/-- A number out of its range, no part, or a part out of its list (R61). -/
theorem writeCabin_of_bad {n : Nat} {lockOut : Option Nat} {watch : Option (Nat × Nat)} {tamper : Option Nat}
    (h : ¬(1 ≤ n ∧ n ≤ 9999) ∨ (lockOut = none ∧ watch = none ∧ tamper = none) ∨ (∃ v ∈ lockOut, v ≠ 1 ∧ v ≠ 2) ∨
      (∃ v ∈ watch, 16 ≤ v.1 ∨ 16 ≤ v.2) ∨ ∃ v ∈ tamper, v ≠ 1 ∧ v ≠ 2) (s : State) :
    writeCabin s n lockOut watch tamper = (s, .parameter) := by
  by_cases hread : readPart readLockOutPart lockOut = none ∨ readPart readWatchPart watch = none ∨
      readPart readTamper tamper = none
  · exact writeCabin_of_unread hread s n
  · simp only [readPart_eq_none_iff, readLockOutPart_eq_none_iff, readWatchPart_eq_none_iff,
      readTamper_eq_none_iff] at hread
    rcases h with hout | ⟨rfl, rfl, rfl⟩ | h | h | h
    · unfold writeCabin
      split
      · exact if_pos (.inl (decide_eq_false_iff_not.2 hout))
      · rfl
    · exact if_pos (.inr ⟨rfl, rfl, rfl⟩)
    · exact absurd (.inl h) hread
    · exact absurd (.inr (.inl h)) hread
    · exact absurd (.inr (.inr h)) hread

/-- The watch part as it is read. -/
theorem exists_readPart_watch {watch : Option (Nat × Nat)} (h : ∀ v ∈ watch, v.1 < 16 ∧ v.2 < 16) :
    ∃ wa, readPart readWatchPart watch = some wa := by
  refine Option.ne_none_iff_exists'.1 fun hnone => ?_
  obtain ⟨v, hv, hbad⟩ := (readPart_eq_none_iff ..).1 hnone
  rw [readWatchPart_eq_none_iff] at hbad
  have hgood := h v hv
  omega

/-- The tamper part on the cabin that stands under the number. -/
theorem tamperState_of_cabin {s : State} {n : Nat} {c : Cabin} (hc : s.cabin? n = some c) (tamper : Option Nat) :
    tamperState s n (tamper.map fun v => if v = 1 then TamperAction.none else TamperAction.lockOut) =
      match tamper with
      | none => s
      | some v => { s with cabins := (put Cabin.key { c with data := { c.data with
          tamper := if v = 1 then TamperAction.none else TamperAction.lockOut } } s.cabins) } := by
  cases tamper with
  | none => rfl
  | some v => exact modifyCabin_of_cabin hc _

/-- The watch part on the cabin that stands under the number, and the cabin as it leaves it (R59, R62). -/
theorem watchState_of_cabin {s : State} {n : Nat} {c : Cabin} (hc : s.cabin? n = some c) (pattern mask : Sensors) :
    ∃ w, reevaluatedTo { c with data := { c.data with pattern := pattern, mask := mask } } w ∧
      (let c2 : Cabin := { c with data := { c.data with pattern := pattern, mask := mask }, watch := w }
      watchState s n (some (pattern, mask)) = { s with cabins := put Cabin.key c2 s.cabins } ∧
        (watchState s n (some (pattern, mask))).cabin? n = some c2) := by
  obtain ⟨w, hw, hto⟩ := reevaluate_eq_reevaluatedTo { c with data := { c.data with pattern := pattern, mask := mask } }
  have hstate : watchState s n (some (pattern, mask)) = { s with cabins := (put Cabin.key
      { c with data := { c.data with pattern := pattern, mask := mask }, watch := w } s.cabins) } := by
    refine (modifyCabin_of_cabin hc _).trans ?_
    rw [Cabin.writeWatch, hw]
  refine ⟨w, hto, hstate, ?_⟩
  obtain rfl : c.data.number = n := lookup_some_key Cabin.key hc
  rw [hstate]
  exact cabin?_put s { c with data := { c.data with pattern := pattern, mask := mask }, watch := w }

/-- The cabin after the lock-out part, as the statement writes it. -/
theorem lockOutCabin_eq (c : Cabin) {lockOut : Option Nat} (h : ∀ v ∈ lockOut, v = 1 ∨ v = 2) :
    lockOutCabin c lockOut = { c with lockState := match (generalizing := false) lockOut, c.lockState with
      | some 1, _ => .lockedOut .command
      | some _, .lockedOut _ => .secured
      | _, old => old } := by
  obtain ⟨data, lockState, windowEnd, overrideEnd, lastWord, watch, privacy, trail⟩ := c
  cases lockOut with
  | none => rfl
  | some v => rcases h v rfl with rfl | rfl <;> cases lockState <;> rfl

/-- Settles O48: the parts one after another, each on the cabin as the one before leaves it. -/
theorem cabinWriteAppliesItsParts : Obligations.CabinWriteAppliesItsParts := by
  intro s tag n lockOut watch tamper hs t
  rw [exec_cabinWrite hs]
  refine ⟨fun hbad => ?_, fun hlow hhigh hsome hlo hwa hta => ?_⟩
  · rw [writeCabin_of_bad hbad]
    rfl
  obtain ⟨wa, hread⟩ := exists_readPart_watch hwa
  refine ⟨fun hnone => ?_, fun c hc => ?_⟩
  · rw [(writeCabin_of_read ⟨hlow, hhigh⟩ hsome hlo hread hta).1 hnone]
    rfl
  · rw [(writeCabin_of_read ⟨hlow, hhigh⟩ hsome hlo hread hta).2 c hc]
    intro u1 c1
    have hu1 : u1 = lockOutState t c lockOut := by cases lockOut <;> rfl
    have hc1 : c1 = lockOutCabin c lockOut := (lockOutCabin_eq c hlo).symm
    have hfirst := cabin?_lockOutState hc lockOut
    rw [← hu1, ← hc1] at hfirst
    rw [← hu1]
    clear_value u1 c1
    cases watch with
    | none =>
      obtain rfl : wa = none := (Option.some_inj.1 hread).symm
      refine ⟨c1, (fun _ => rfl), (fun _ _ _ _ h => absurd h (Option.some_ne_none _).symm), ?_⟩
      rw [watchState, tamperState_of_cabin hfirst]
      rfl
    | some x =>
      obtain ⟨p, m⟩ := x
      obtain ⟨pattern, hp⟩ : ∃ pattern, readSensorSet p = some pattern :=
        Option.ne_none_iff_exists'.1 fun h => Nat.not_le.2 (hwa _ rfl).1 ((readSensorSet_eq_none_iff p).1 h)
      obtain ⟨mask, hm⟩ : ∃ mask, readSensorSet m = some mask :=
        Option.ne_none_iff_exists'.1 fun h => Nat.not_le.2 (hwa _ rfl).2 ((readSensorSet_eq_none_iff m).1 h)
      have hboth : wa = some (pattern, mask) := by
        rw [readPart, readWatchPart_of_read hp hm] at hread
        exact (Option.some_inj.1 hread).symm
      subst hboth
      obtain ⟨w, hto, hstate, hsecond⟩ := watchState_of_cabin hfirst pattern mask
      refine ⟨{ c1 with data := { c1.data with pattern := pattern, mask := mask }, watch := w },
        (fun h => absurd h (Option.some_ne_none _)), ?_, ?_⟩
      · intro p' m' pattern' mask' hpair hp' hm'
        cases hpair
        obtain rfl : pattern = pattern' := Option.some_inj.1 (hp.symm.trans hp')
        obtain rfl : mask = mask' := Option.some_inj.1 (hm.symm.trans hm')
        exact ⟨w, rfl, hto⟩
      · rw [tamperState_of_cabin hsecond, hstate]
        rfl

end Sys2Proof.Proofs

/-! PROOF. Cabin access: windows and override periods (R52, R53), sensor words (R45, R57, R58, R60), gestures at a
Lock (R48-R51, R54, R55, R63). -/

namespace Sys2Proof.Proofs

open Sys2Proof.Machine Sys2Proof.Claims

/-! ## Windows and override periods -/

theorem reached_eq_true_iff (s : State) (t : Option Nat) : s.reached t = true ↔ ∃ e, t = some e ∧ e ≤ s.timebase := by
  cases t <;> simp [State.reached]

theorem reached_eq_false {s : State} {t : Option Nat} (h : ∀ e, t = some e → s.timebase < e) : s.reached t = false :=
  Bool.eq_false_iff.2 fun hr => by
    obtain ⟨e, he, hle⟩ := (reached_eq_true_iff s t).1 hr
    exact absurd hle (Nat.not_le.2 (h e he))

/-- WINDOW_END on a part that has main power. -/
theorem exec_windowEnd {s : State} (hon : s.power.mainOn = true) (n : Nat) :
    exec (.windowEnd n) s = .next (match s.cabin? n with
      | some c => if s.reached c.windowEnd then withCabin s c.endWindow else s
      | none => s) :=
  congrArg Host.Outcome.next (whenOn_of_on hon _)

/-- OVERRIDE_END on a part that has main power. -/
theorem exec_overrideEnd {s : State} (hon : s.power.mainOn = true) (n : Nat) :
    exec (.overrideEnd n) s = .next (match s.cabin? n with
      | some c => if s.reached c.overrideEnd then withCabin s c.endOverride else s
      | none => s) :=
  congrArg Host.Outcome.next (whenOn_of_on hon _)

/-- Settles O53, by whether the cabin is there and its end has been reached. -/
theorem windowsAndOverridesEnd : Obligations.WindowsAndOverridesEnd := by
  intro s n hon
  rw [exec_windowEnd hon, exec_overrideEnd hon]
  refine ⟨fun hnone => ?_, fun c hc => ?_⟩
  · rw [hnone]
    exact ⟨rfl, rfl⟩
  rw [hc]
  dsimp only
  refine ⟨fun t ht hle => ?_, fun hbefore => ?_, fun t ht hle => ?_, fun hbefore => ?_⟩
  · rw [if_pos ((reached_eq_true_iff ..).2 ⟨t, ht, hle⟩)]
    rfl
  · rw [reached_eq_false hbefore]
    rfl
  · obtain ⟨w, hw, hto⟩ := reevaluate_eq_reevaluatedTo { c with overrideEnd := none }
    refine ⟨w, hto, ?_⟩
    rw [if_pos ((reached_eq_true_iff ..).2 ⟨t, ht, hle⟩), Cabin.endOverride, hw]
  · rw [reached_eq_false hbefore]
    rfl

/-! ## Sensor words -/

theorem wordMatches_eq_false_iff (c : Cabin) (w : Sensors) : c.wordMatches w = false ↔ ¬agrees c w := by
  rw [← wordMatches_iff_agrees, Bool.not_eq_true]

theorem mismatch_tamperCover_iff (c : Cabin) (w : Sensors) :
    (c.mismatch w).tamperCover = true ↔ tamperMismatch c w := by
  rw [Cabin.mismatch, effectiveMask_eq_maskInForce, tamperMismatch]
  exact Bool.and_eq_true_iff.trans (and_congr_right fun _ => bne_iff_ne)

theorem isLockedOut_iff_lockedOut (c : Cabin) : c.lockState.isLockedOut = true ↔ lockedOut c := isLockedOut_iff _

theorem isLockedOut_eq_false_iff (c : Cabin) : c.lockState.isLockedOut = false ↔ ¬lockedOut c := by
  rw [← isLockedOut_iff_lockedOut, Bool.not_eq_true]

/-- Only the first word of a cabin, or one that moves the watch nowhere, is taken in silence (R58). -/
theorem takeWordFor_of_first {c : Cabin} (h : c.lastWord = none) (s : State) (w : Sensors) :
    s.takeWordFor c w = withCabin s
      { c with lastWord := some w, privacy := w.privacyKnob, watch := watchAfter (c.wordMatches w) } := by
  rw [State.takeWordFor, h]
  rfl

theorem takeWordFor_of_later {c : Cabin} {x : Sensors} (h : c.lastWord = some x) (s : State) (w : Sensors) :
    s.takeWordFor c w =
      let c' : Cabin := { c with lastWord := some w, privacy := w.privacyKnob, watch := watchAfter (c.wordMatches w) }
      if c.watch = .armed ∧ c.wordMatches w = false then s.tripWatch c' w
      else if c.watch = .tripped ∧ c.wordMatches w = true then
        withEvent (withCabin s c') { kind := .entryRestored, station := c.data.lock, cabin := some c.data.number }
      else withCabin s c' := by
  rw [State.takeWordFor, h]
  rfl

theorem takeWordFor_of_kept {c : Cabin} {w : Sensors} {m : Bool} (hm : c.wordMatches w = m)
    (h : c.lastWord = none ∨ c.watch = watchAfter m) (s : State) :
    s.takeWordFor c w = withCabin s { c with lastWord := some w, privacy := w.privacyKnob, watch := watchAfter m } := by
  cases hlast : c.lastWord with
  | none => rw [takeWordFor_of_first hlast, hm]
  | some x =>
    have hwatch : c.watch = watchAfter m := h.resolve_left (by rw [hlast]; exact Option.some_ne_none x)
    rw [takeWordFor_of_later hlast, hm, hwatch]
    cases m <;> rfl

/-- Settles O52, by whether the word agrees and where the watch stands. -/
theorem sensorWordsMoveTheWatch : Obligations.SensorWordsMoveTheWatch := by
  intro s st w
  refine ⟨fun hnone => by rw [State.takeWord, hnone], fun c hc => ?_⟩
  have htake : s.takeWord st w = s.takeWordFor c w := by rw [State.takeWord, hc]
  rw [htake]
  intro seen tripped
  refine ⟨fun hagrees hkept => ?_, fun hagrees hlast hwatch => ?_, fun hdiffers hkept => ?_,
    fun hdiffers hlast hwatch => ?_⟩
  · exact takeWordFor_of_kept ((wordMatches_iff_agrees c w).2 hagrees) hkept s
  · obtain ⟨x, hx⟩ := Option.ne_none_iff_exists'.1 hlast
    rw [takeWordFor_of_later hx, (wordMatches_iff_agrees c w).2 hagrees, hwatch]
    rfl
  · exact takeWordFor_of_kept ((wordMatches_eq_false_iff c w).2 hdiffers) hkept s
  · obtain ⟨x, hx⟩ := Option.ne_none_iff_exists'.1 hlast
    have htrip : s.takeWordFor c w = s.tripWatch (seen .tripped) w := by
      rw [takeWordFor_of_later hx, (wordMatches_eq_false_iff c w).2 hdiffers]
      exact if_pos ⟨hwatch, rfl⟩
    rw [htrip, ← isLockedOut_eq_false_iff, ← mismatch_tamperCover_iff]
    exact ⟨fun htamper hcover hfree => if_pos ⟨htamper, hcover, hfree⟩, fun h => if_neg h⟩

/-! ## Gestures at a Lock -/

theorem isGuestJunior_iff (cls : HolderClass) : cls.isGuestJunior = true ↔ isPassenger cls := by
  cases cls <;> simp [HolderClass.isGuestJunior, isPassenger]

theorem reaches_iff (e : CardEntry) (c : Cabin) : reaches e c = true ↔ reachesCabin e c := by
  unfold reaches reachesCabin
  cases e.data.cls <;> simp

/-- A cabin that a grant opens, before its watch is re-evaluated (R51). -/
def openedCabin (s : State) (c : Cabin) : Cabin :=
  { c with
    lockState := match c.lockState with | .lockedOut h => .lockedOut h | _ => .openWindow
    windowEnd := some (s.timebase + s.engine.profile.openWindow * 1000)
    overrideEnd := some (s.timebase + s.engine.profile.openWindow * 1000 + s.engine.profile.entryGrace * 1000) }

theorem grantCabin_eq_reevaluate (s : State) (c : Cabin) : s.grantCabin c = withCabin s (openedCabin s c).reevaluate := by
  obtain ⟨data, lockState, windowEnd, overrideEnd, lastWord, watch, privacy, trail⟩ := c
  cases lockState <;> rfl

theorem grantCabin_eq_opened (s : State) (c : Cabin) : ∃ c', opened s c c' ∧ s.grantCabin c = withCabin s c' := by
  obtain ⟨w, hw, hto⟩ := reevaluate_eq_reevaluatedTo (openedCabin s c)
  exact ⟨_, ⟨w, rfl, hto⟩, (grantCabin_eq_reevaluate s c).trans (congrArg (withCabin s) hw)⟩

/-- The decision on an Open gesture at the Lock of a cabin (R49, R50, R51). -/
theorem decideOpen_of_cabin {s : State} {st : Station} {c : Cabin} (hc : s.cabinAt? st = some c) (e : CardEntry) :
    decideOpen s st e =
      if s.muster.state = .alert ∧ e.data.search = true then (s.grantCabin c, .granted)
      else if c.lockState.isLockedOut = true ∧ e.data.cls = .officer then (s.grantCabin c, .granted)
      else if c.lockState.isLockedOut = true then (s, .lockedOut)
      else if c.privacy = true ∧ e.data.cls = .steward then (s, .privacy)
      else if reaches e c = false then (s, .notListed)
      else if e.data.cls.isGuestJunior = true ∧ e.presence = .ashore then
        (withEvent (s.grantCabin c) { kind := .presenceAnomaly, station := some st, card := some e.data.number,
                                      cabin := some c.data.number }, .granted)
      else (s.grantCabin c, .granted) := by
  rw [decideOpen, hc]
  rfl

theorem decideReferredOpen_of_cabin {s : State} {st : Station} {c : Cabin} (hc : s.cabinAt? st = some c) :
    decideReferredOpen s st = if c.lockState.isLockedOut = true then (s, .lockedOut) else (s.grantCabin c, .granted) := by
  rw [decideReferredOpen, hc]

theorem decideLockout_of_cabin {s : State} {st : Station} {c : Cabin} (hc : s.cabinAt? st = some c) (e : CardEntry) :
    decideLockout s st e =
      if e.data.cls = .officer then
        if c.lockState.isLockedOut = true then
          (withEvent (withCabin s { c with lockState := .secured }) (lockOutEvent .lockOutLifted c e.data.number), .granted)
        else
          (withEvent (withCabin s { c with lockState := .lockedOut (.officer e.data.number) })
            (lockOutEvent .lockOutSet c e.data.number), .granted)
      else if c.lockState.isLockedOut = true then (s, .lockedOut)
      else (s, .notListed) := by
  rw [decideLockout, hc]
  rfl

section jobOfGesture

variable {p : Presentation} (s : State) (e : CardEntry)

theorem decideJob_openDoor (hp : p.part = .openDoor) : decideJob s p e = decided (decideOpen s p.station e) := by
  rw [decideJob, hp]
  rfl

theorem decideGrant_openDoor (hp : p.part = .openDoor) : decideGrant s p = decided (decideReferredOpen s p.station) := by
  rw [decideGrant, hp]
  rfl

theorem decideJob_lockout (hp : p.part = .lockout) : decideJob s p e = decided (decideLockout s p.station e) := by
  rw [decideJob, hp]
  rfl

theorem decideGrant_lockout (hp : p.part = .lockout) : decideGrant s p = decided (s, .unknown) := by
  rw [decideGrant, hp]
  rfl

end jobOfGesture

/-- An Open gesture that no search and no officer's key decides, in the order of R49. -/
theorem openGestureIsDecided {s : State} {p : Presentation} {c : Cabin} (hp : p.part = .openDoor)
    (hc : s.cabinAt? p.station = some c) {e : CardEntry} (hsearch : ¬(s.muster.state = .alert ∧ e.data.search = true)) :
    (lockedOut c → e.data.cls ≠ .officer → decideJob s p e = decided (s, .lockedOut)) ∧
    (¬lockedOut c → c.privacy = true → e.data.cls = .steward → decideJob s p e = decided (s, .privacy)) ∧
    (¬lockedOut c → ¬(c.privacy = true ∧ e.data.cls = .steward) →
      (¬reachesCabin e c → decideJob s p e = decided (s, .notListed)) ∧
      (reachesCabin e c → ∃ c', opened s c c' ∧
        (isPassenger e.data.cls → e.presence = .ashore → decideJob s p e = decided (withEvent (withCabin s c')
          { kind := .presenceAnomaly, station := some p.station, card := some e.data.number,
            cabin := some c.data.number }, .granted)) ∧
        (¬(isPassenger e.data.cls ∧ e.presence = .ashore) →
          decideJob s p e = decided (withCabin s c', .granted)))) := by
  obtain ⟨c', hopened, hgrant⟩ := grantCabin_eq_opened s c
  rw [decideJob_openDoor s e hp, decideOpen_of_cabin hc, if_neg hsearch]
  simp only [← isLockedOut_iff_lockedOut, ← isGuestJunior_iff, ← reaches_iff, hgrant]
  refine ⟨fun hlocked hcls => ?_, fun hfree hprivacy hcls => ?_, fun hfree hquiet => ⟨fun hfar => ?_, fun hreach => ?_⟩⟩
  · rw [if_neg fun h => hcls h.2, if_pos hlocked]
  · rw [if_neg fun h => hfree h.1, if_neg hfree, if_pos ⟨hprivacy, hcls⟩]
  · rw [if_neg fun h => hfree h.1, if_neg hfree, if_neg hquiet, if_pos (Bool.eq_false_iff.2 hfar)]
  · rw [if_neg fun h => hfree h.1, if_neg hfree, if_neg hquiet, if_neg (ne_false_of_eq_true hreach)]
    exact ⟨c', hopened, fun hpassenger hashore => by rw [if_pos ⟨hpassenger, hashore⟩], fun h => by rw [if_neg h]⟩

/-- Settles O51, by the cabin linked to the Lock and the tests in their order. -/
theorem lockGesturesAreDecided : Obligations.LockGesturesAreDecided := by
  refine ⟨fun s p hp => ⟨fun hnone => ?_, fun c hc => ?_⟩, fun s p e hp => ⟨decideGrant_lockout s hp, fun hnone => ?_,
    fun c hc => ?_⟩⟩
  · refine ⟨fun e => ?_, ?_⟩
    · rw [decideJob_openDoor s e hp, decideOpen, hnone]
    · rw [decideGrant_openDoor s hp, decideReferredOpen, hnone]
  · obtain ⟨c', hopened, hgrant⟩ := grantCabin_eq_opened s c
    rw [decideGrant_openDoor s hp, decideReferredOpen_of_cabin hc]
    simp only [← isLockedOut_iff_lockedOut, hgrant]
    refine ⟨fun hlocked => by rw [if_pos hlocked], fun hfree => ⟨c', hopened, by rw [if_neg hfree]⟩, fun e =>
      ⟨fun hgranted => ⟨c', hopened, ?_⟩, fun hsearch => ?_⟩⟩
    · rw [decideJob_openDoor s e hp, decideOpen_of_cabin hc, hgrant]
      by_cases hsearch : s.muster.state = .alert ∧ e.data.search = true
      · rw [if_pos hsearch]
      · rw [if_neg hsearch, if_pos (hgranted.resolve_left hsearch)]
    · have hrest := openGestureIsDecided hp hc hsearch
      rwa [← isLockedOut_iff_lockedOut] at hrest
  · rw [decideJob_lockout s e hp, decideLockout, hnone]
  · rw [decideJob_lockout s e hp, decideLockout_of_cabin hc, ← isLockedOut_iff_lockedOut]
    exact ⟨fun hcls hlocked => by rw [if_pos hcls, if_pos hlocked], fun hcls hfree => by rw [if_pos hcls, if_neg hfree],
      fun hcls hlocked => by rw [if_neg hcls, if_pos hlocked], fun hcls hfree => by rw [if_neg hcls, if_neg hfree]⟩

end Sys2Proof.Proofs

/-! PROOF. Verdicts, referrals and fallbacks (R15, R32, R56, R113, R142-R144, R146), and the common card checks
(R1-R3, R13-R20). -/

namespace Sys2Proof.Proofs

open Sys2Proof.Machine Sys2Proof.Claims

/-! ## Verdicts (R15, R32, R56, R113) -/

theorem writeRepeat_eq_repeatWritten (s : State) (p : Presentation) :
    s.writeRepeat p.station p.card = repeatWritten s p := by
  unfold State.writeRepeat repeatWritten
  cases s.station? p.station with
  | none => rfl
  | some r => obtain ⟨addr, kind⟩ := r; cases kind <;> rfl

theorem appendTrail_eq (trail : List AccessRecord) (r : AccessRecord) :
    appendTrail trail r = (trail ++ [r]).drop ((trail ++ [r]).length - 8) := by
  rw [appendTrail, List.length_append]
  rfl

theorem recordGesture_eq_trailed (s : State) (p : Presentation) (r : Reason) : s.recordGesture p r = trailed s p r := by
  unfold State.recordGesture trailed gestureOf State.recordTrail
  cases p.part <;> cases s.cabinAt? p.station <;> simp only [appendTrail_eq] <;> rfl

theorem dropVerdict_eq (s : State) (st : Station) (crossing : Bool) (v : Verdict) : s.dropVerdict st crossing v =
    if crossing = true ∧ v.reason = .granted then passageAbandoned s st .abandonedAbsent else s := by
  rw [State.dropVerdict, abandonPassage_eq_passageAbandoned]

theorem takeVerdict_eq_verdictTaken (s : State) (st : Station) (number : Nat) (crossing : Bool) (v : Verdict) :
    s.takeVerdict st number crossing v = verdictTaken s st number crossing v := by
  unfold State.takeVerdict verdictTaken
  simp only [dropVerdict_eq]
  cases s.station? st with
  | none => rfl
  | some r => obtain ⟨addr, kind, status, misses, openRequest⟩ := r; cases openRequest <;> rfl

theorem giveVerdict_eq (s : State) (p : Presentation) (number : Nat) (v : Verdict) :
    s.giveVerdict p number v =
      verdictTaken (trailed (repeatWritten s p) p v.reason) p.station number
        (match p.part with | .passage _ => true | _ => false) v := by
  rw [State.giveVerdict, takeVerdict_eq_verdictTaken, recordGesture_eq_trailed, writeRepeat_eq_repeatWritten]
  rfl

/-! ## Referrals and fallbacks (R142, R143, R144, R146) -/

theorem fallbackGrants_iff (s : State) (p : Presentation) :
    fallbackGrants s.engine.profile p.part = true ↔ grantsByFallback s p := by
  unfold fallbackGrants grantsByFallback
  cases p.part <;> simp

theorem fallback_eq_fallbackOf (s : State) (p : Presentation) (number : Nat) (why : FallbackCause) :
    s.fallback p number why = fallbackOf p number why (decideFallback s p) := rfl

/-- A referral is created with the tag given next, while fewer than 64 are held (R143). -/
theorem createReferral_given {s : State} (hup : s.trunk.up = true) (hroom : s.referral.list.length < 64)
    (p : Presentation) (number : Nat) (cause : ReferralCause) : ∃ tag,
      tagGiven (s.referral.list.map Referral.tag) s.referral.lastTag tag ∧
      s.createReferral p number cause = withFrame
        { s with referral :=
            { list := s.referral.list ++ [{ tag := tag, presentation := p, cause := cause, number := number,
                                            left := s.engine.profile.referralTimeout * 1000 }]
              lastTag := tag } }
        (.referral tag p cause) := by
  have hlength : (s.referral.list.map Referral.tag).length = s.referral.list.length := List.length_map ..
  refine ⟨_, nextTag_given _ _ (hlength ▸ Nat.lt_trans hroom (by decide)), ?_⟩
  rw [hlength]
  exact if_pos hup

/-- Settles O50, from the words of the statement for the model's operations. -/
theorem verdictsReferralsAndFallbacks : Obligations.VerdictsReferralsAndFallbacks := by
  refine ⟨giveVerdict_eq, fun s p number => ⟨fun cause hup hroom => ?_, fun cause hdown => if_pos hdown,
    fun cause hup hfull => ?_, fun why => ⟨fun hno => ?_, fun hyes => ?_⟩⟩⟩
  · obtain ⟨tag, hgiven, hcreate⟩ := createReferral_given hup hroom p number cause
    exact ⟨tag, hgiven, ((if_neg (ne_false_of_eq_true hup)).trans (if_pos hroom)).trans hcreate⟩
  · exact (if_neg (ne_false_of_eq_true hup)).trans (if_neg (Nat.not_lt.2 hfull))
  · rw [fallback_eq_fallbackOf, decideFallback, if_neg fun h => hno ((fallbackGrants_iff s p).1 h)]
    rfl
  · rw [fallback_eq_fallbackOf, decideFallback, if_pos ((fallbackGrants_iff s p).2 hyes)]

/-! ## The form test (R1, R2, R191) -/

/-- The kind part of the enrolled kind, its codes among those of R189. -/
theorem readJobPart_eq_jobOf (kind : StationKind) (part : KindPart) : readJobPart kind part = jobOf kind part := by
  cases kind <;> cases part
  case lock.gesture g => rcases g with _ | _ | _ | g <;> rfl
  case bar.sale amount goods reference => rcases goods with _ | _ | _ | goods <;> rfl
  case gate.direction d => rcases d with _ | _ | _ | d <;> rfl
  all_goals rfl

theorem readPresentation_of_jobOf {kind : StationKind} {part : KindPart} {j : JobPart} (hj : jobOf kind part = some j)
    {v card : Nat} (hform : 1 ≤ v ∧ v ≤ 65535 ∧ 1 ≤ card ∧ card ≤ 16777215) (st : Station) (issue : Nat) :
    readPresentation st kind v card issue part =
      some { station := st, vessel := v, card := card, issue := issue, part := j } := by
  rw [readPresentation, readJobPart_eq_jobOf, hj]
  exact if_pos hform

theorem readPresentation_of_bad {kind : StationKind} {part : KindPart} {v card : Nat}
    (h : ¬(1 ≤ v ∧ v ≤ 65535 ∧ 1 ≤ card ∧ card ≤ 16777215) ∨ jobOf kind part = none) (st : Station) (issue : Nat) :
    readPresentation st kind v card issue part = none := by
  rw [readPresentation, readJobPart_eq_jobOf]
  cases hj : jobOf kind part with
  | none => rfl
  | some j => exact if_neg (h.resolve_right (by rw [hj]; exact Option.some_ne_none j))

theorem terminalVerdict_eq (st : Station) (number : Nat) (r : State × Reason) :
    terminalVerdict st number r = verdictTaken (decided r).1 st number false (decided r).2 :=
  takeVerdict_eq_verdictTaken ..

section takeRequest

variable (s : State) (st : Station) (number : Nat)

theorem takeRequest_complete_bar (outlet tag amount : Nat) :
    s.takeRequest st (.bar outlet) number (.complete tag amount) =
      terminalVerdict st number (decideComplete s st tag amount) := rfl

theorem takeRequest_cancel_bar (outlet tag : Nat) :
    s.takeRequest st (.bar outlet) number (.cancel tag) = terminalVerdict st number (decideCancel s st tag) := rfl

theorem takeRequest_terminal_other {kind : StationKind} (hkind : ∀ o, kind ≠ .bar o) (tag amount : Nat) :
    s.takeRequest st kind number (.complete tag amount) = terminalVerdict st number (s, .parameter) ∧
    s.takeRequest st kind number (.cancel tag) = terminalVerdict st number (s, .parameter) := by
  cases kind with
  | bar o => exact absurd rfl (hkind o)
  | _ => exact ⟨rfl, rfl⟩

theorem takeRequest_report_other {kind : StationKind} (hkind : kind ≠ .gate) (outcome : Nat) :
    s.takeRequest st kind number (.passageReport outcome) = terminalVerdict st number (s, .parameter) := by
  cases kind with
  | gate => exact absurd rfl hkind
  | _ => rfl

theorem takeRequest_presentation_of_read {kind : StationKind} {v card issue : Nat} {part : KindPart} {p : Presentation}
    (h : readPresentation st kind v card issue part = some p) :
    s.takeRequest st kind number (.presentation v card issue part) = s.decidePresentation p number := by
  rw [State.takeRequest, h]

theorem takeRequest_presentation_of_unread {kind : StationKind} {v card issue : Nat} {part : KindPart}
    (h : readPresentation st kind v card issue part = none) :
    s.takeRequest st kind number (.presentation v card issue part) = terminalVerdict st number (s, .parameter) := by
  rw [State.takeRequest, h]

end takeRequest

/-! ## The common card checks (R13-R20) -/

theorem vesselAccepted_iff (s : State) (v : Nat) : s.vesselAccepted v = true ↔ vesselKnown s v := by
  unfold State.vesselAccepted vesselKnown
  rw [List.any_beq', List.contains_iff_mem]

theorem isRepeat_iff (s : State) (p : Presentation) : s.isRepeat p = true ↔ repeats s p := by
  have hwindow : ∀ rec : RepeatRecord, withinRepeatWindow (some rec) p.card s.timebase s.engine.profile.repeatWindow = true ↔
      rec.card = p.card ∧ s.timebase - rec.time < s.engine.profile.repeatWindow * 1000 := fun rec => by
    rw [withinRepeatWindow, Bool.and_eq_true, beq_iff_eq, decide_eq_true_eq]
    rfl
  unfold State.isRepeat State.repeatRecord repeats
  cases hst : s.station? p.station with
  | none => simp [withinRepeatWindow]
  | some r =>
    cases hrec : r.repeatRecord with
    | none => simp [withinRepeatWindow, hrec]
    | some rec => simp [hwindow, hrec]

theorem filtersRepeats_iff (part : JobPart) :
    part.filtersRepeats = true ↔ ∀ a g r, part ≠ .authorize a g r := by
  cases part <;> simp [JobPart.filtersRepeats]

theorem checkEntry_of_checked {s : State} {p : Presentation} {e : CardEntry} {o : CheckOutcome}
    (h : checked s p e o) : checkEntry s.engine.voyage.time p.issue e = o := by
  rcases h with ⟨hissue, rfl⟩ | ⟨hissue, rfl⟩ | ⟨hissue, hstatus, rfl⟩ | ⟨hissue, hstatus, hvalid⟩
  · exact if_pos hissue
  · exact (if_neg (Nat.lt_asymm hissue)).trans (if_pos hissue)
  · unfold checkEntry
    rw [hissue, if_neg (Nat.lt_irrefl _), if_neg (Nat.lt_irrefl _), if_pos hstatus]
  · have hactive : ¬e.data.status = .blocked := by rw [hstatus]; exact nofun
    unfold checkEntry
    rw [hissue, if_neg (Nat.lt_irrefl _), if_neg (Nat.lt_irrefl _), if_neg hactive]
    rcases hvalid with ⟨hnone | ⟨a, b, t, hwindow, ht, hin⟩, rfl⟩ | ⟨⟨a, b, t, hwindow, ht, hout⟩, rfl⟩ |
      ⟨hwindow, ht, rfl⟩
    · rw [hnone]
    · simp only [hwindow, ht, notLater, Bool.and_eq_true, decide_eq_true_eq, if_pos hin]
    · simp only [hwindow, ht, notLater, Bool.and_eq_true, decide_eq_true_eq, if_neg hout]
    · obtain ⟨x, hx⟩ := Option.ne_none_iff_exists'.1 hwindow
      rw [hx, ht]

theorem giveVerdict_refuseBy (s : State) (p : Presentation) (number : Nat) (r : Reason) (event : Option EventKind) :
    (s.refuseBy p event).giveVerdict p number (plainVerdict r) = refusedBy s p number r event := by
  cases event <;> rfl

/-- A foreign card (R14). -/
theorem decidePresentation_of_foreign {s : State} {p : Presentation} (h : ¬vesselKnown s p.vessel) (number : Nat) :
    s.decidePresentation p number =
      (if s.isRepeat p = true then s else cardEvent s .foreignCard p).giveVerdict p number (verdictOf .foreign) :=
  if_pos (Bool.eq_false_iff.2 fun hknown => h ((vesselAccepted_iff ..).1 hknown))

/-- A presentation that is past the vessel check and the repeat filter (R16-R20). -/
theorem decidePresentation_of_checked {s : State} {p : Presentation} (hknown : vesselKnown s p.vessel)
    (hrepeat : ¬(p.part.filtersRepeats = true ∧ s.isRepeat p = true)) (number : Nat) :
    s.decidePresentation p number =
      match s.card? p.card with
      | none => s.refer p number .lookupMiss
      | some e =>
        match checkEntry s.engine.voyage.time p.issue e with
        | .refused reason event => refusedBy s p number reason event
        | .referred cause => s.refer p number cause
        | .passed => (decideJob s p e).1.giveVerdict p number (decideJob s p e).2 := by
  unfold State.decidePresentation
  simp only [giveVerdict_refuseBy]
  rw [if_neg (ne_false_of_eq_true ((vesselAccepted_iff ..).2 hknown)),
    if_neg fun h => hrepeat (Bool.and_eq_true_iff.1 h)] <;> rfl

/-- Settles O49, check by check. -/
theorem requestsAreCheckedInOrder : Obligations.RequestsAreCheckedInOrder := by
  refine ⟨fun s st kind number => ⟨fun v card issue part => ⟨?_, fun hbad => ?_⟩, fun tag amount => ⟨?_, ?_, fun hkind => ?_⟩,
    fun outcome => ⟨?_, fun hkind => ?_⟩⟩, fun s p number => ⟨fun hforeign hfresh => ?_, fun hforeign hrepeat => ?_,
      fun hknown hrepeat hpart => ?_, fun hknown hpast => ?_⟩⟩
  · intro hv hv' hcard hcard' j hj
    exact takeRequest_presentation_of_read s st number (readPresentation_of_jobOf hj ⟨hv, hv', hcard, hcard'⟩ st issue)
  · rw [takeRequest_presentation_of_unread s st number (readPresentation_of_bad hbad st issue), terminalVerdict_eq]
    rfl
  · rintro ⟨o, rfl⟩
    rw [takeRequest_complete_bar, terminalVerdict_eq]
  · rintro ⟨o, rfl⟩
    rw [takeRequest_cancel_bar, terminalVerdict_eq]
  · have hother := takeRequest_terminal_other s st number hkind tag amount
    rwa [terminalVerdict_eq] at hother
  · rintro rfl
    exact terminalVerdict_eq ..
  · have hother := takeRequest_report_other s st number hkind outcome
    rwa [terminalVerdict_eq] at hother
  · rw [decidePresentation_of_foreign hforeign, if_neg fun h => hfresh ((isRepeat_iff s p).1 h)]
  · rw [decidePresentation_of_foreign hforeign, if_pos ((isRepeat_iff s p).2 hrepeat)]
  · have hfiltered : (p.part.filtersRepeats && s.isRepeat p) = true :=
      Bool.and_eq_true_iff.2 ⟨(filtersRepeats_iff _).2 hpart, (isRepeat_iff s p).2 hrepeat⟩
    rw [State.decidePresentation, if_neg (ne_false_of_eq_true ((vesselAccepted_iff ..).2 hknown)), if_pos hfiltered,
      takeVerdict_eq_verdictTaken]
    rfl
  · have hunfiltered : ¬(p.part.filtersRepeats = true ∧ s.isRepeat p = true) := by
      rw [filtersRepeats_iff, isRepeat_iff]
      rintro ⟨hpart, hrepeat⟩
      rcases hpast with hfresh | ⟨a, g, r, hauthorize⟩
      · exact hfresh hrepeat
      · exact hpart a g r hauthorize
    rw [decidePresentation_of_checked hknown hunfiltered]
    refine ⟨fun hnone => by rw [hnone], fun e o he ho => ?_⟩
    rw [he]
    dsimp only
    rw [checkEntry_of_checked ho] <;> rfl

end Sys2Proof.Proofs

/-! PROOF. The ends of a hold (R77-R80), gates (R107-R115) and muster points (R133-R136). -/

namespace Sys2Proof.Proofs

open Sys2Proof.Machine Sys2Proof.Claims

/-! ## Holds -/

theorem holdFor?_eq_none {s : State} {st : Station} {tag : Nat}
    (h : ∀ x, s.hold? tag = some x → x.station ≠ st ∨ x.detached = true) : s.holdFor? st tag = none := by
  unfold State.holdFor?
  cases hx : s.hold? tag with
  | none => rfl
  | some x =>
    refine if_neg fun hmine => ?_
    rcases h x hx with hother | hdetached
    · exact hother hmine.1
    · exact Bool.false_ne_true (hmine.2.symm.trans hdetached)

theorem holdFor?_eq_some {s : State} {st : Station} {tag : Nat} {x : Hold} (hx : s.hold? tag = some x)
    (hst : x.station = st) (hdetached : x.detached = false) : s.holdFor? st tag = some x := by
  rw [State.holdFor?, hx]
  exact if_pos ⟨hst, hdetached⟩

/-- HOLD_LAPSE on a part that has main power. -/
theorem exec_holdLapse {s : State} (hon : s.power.mainOn = true) (tag : Nat) :
    exec (.holdLapse tag) s = .next (match s.hold? tag with
      | some x => if x.left = 0 then s.lapseHold x else s
      | none => s) :=
  congrArg Host.Outcome.next (whenOn_of_on hon _)

theorem exec_holdLapse_of_idle {s : State} {tag : Nat} (h : ∀ x, s.hold? tag = some x → x.left ≠ 0) :
    exec (.holdLapse tag) s = .next s := by
  cases hon : s.power.mainOn with
  | false => exact congrArg Host.Outcome.next (whenOn_of_off hon _)
  | true =>
    rw [exec_holdLapse hon]
    cases hx : s.hold? tag with
    | none => rfl
    | some x => exact congrArg Host.Outcome.next (if_neg (h x hx))

/-- Settles O55, by the hold that the tag names. -/
theorem holdsEndWithOneRecord : Obligations.HoldsEndWithOneRecord := by
  intro s st tag amount
  refine ⟨fun hlate => ?_, fun x hx => ⟨fun hst hdetached => ?_, fun hon hleft => ?_, fun hleft => ?_⟩, fun hnone => ?_⟩
  · rw [decideComplete, decideCancel, holdFor?_eq_none hlate]
    exact ⟨rfl, rfl⟩
  · rw [decideComplete, decideCancel, holdFor?_eq_some hx hst hdetached]
    simp only [← endHold_eq_holdEnded]
    exact ⟨fun hmore => if_pos hmore, fun hwithin => if_neg (Nat.not_lt.2 hwithin), trivial⟩
  · rw [exec_holdLapse hon, hx, ← endHold_eq_holdEnded]
    exact congrArg Host.Outcome.next (if_pos hleft)
  · exact exec_holdLapse_of_idle fun y hy => Option.some_inj.1 (hx.symm.trans hy) ▸ hleft
  · exact exec_holdLapse_of_idle fun y hy => absurd (hnone.symm.trans hy) (Option.some_ne_none y).symm

/-! ## Gate decisions (R107, R108, R115) -/

theorem isLastCall_eq_lastCallNow (s : State) : s.passage.port.isLastCall = lastCallNow s := by
  unfold PortState.isLastCall lastCallNow
  cases s.passage.port <;> rfl

theorem passageAt?_isSome (s : State) (gate : Station) :
    (s.passageAt? gate).isSome = s.passage.passages.any fun q => q.gate == gate :=
  List.isSome_find?

theorem crossingBusy_eq (s : State) (gate : Station) (card : Nat) :
    ((s.passageAt? gate).isSome || s.cardPending card) =
      s.passage.passages.any fun q => q.gate == gate || q.card == some card := by
  rw [passageAt?_isSome, State.cardPending, Bool.eq_iff_iff]
  simp only [Bool.or_eq_true, List.any_eq_true, and_or_left, exists_or]

theorem wrongDirection_iff (d : Direction) (p : Presence) :
    wrongDirection d p = true ↔ (d = .outbound ∧ p = .ashore) ∨ (d = .inbound ∧ p = .aboard) := by
  simp only [wrongDirection, Bool.or_eq_true, Bool.and_eq_true, beq_iff_eq]

/-- A muster of either state refuses an Outbound crossing (R107 checks 3 and 4). -/
theorem decidePassage_eq (s : State) (gate : Station) (e : CardEntry) (d : Direction) :
    decidePassage s gate e d =
      if s.passage.port = .atSea then (s, .notInPort)
      else if (s.passage.passages.any fun q => q.gate == gate || q.card == some e.data.number) then (s, .busy)
      else if s.muster.state ≠ .off ∧ d = .outbound then (s, .muster)
      else if lastCallNow s = true ∧ d = .outbound ∧ (e.data.cls = .guest ∨ e.data.cls = .junior) then (s, .lastCall)
      else if (d = .outbound ∧ e.presence = .ashore) ∨ (d = .inbound ∧ e.presence = .aboard) then
        (withEvent s { kind := .presenceAnomaly, station := some gate, card := some e.data.number }, .direction)
      else (passageOpened s gate (some e.data.number) d, .granted) := by
  have hclass : isPassenger e.data.cls ↔ e.data.cls = .guest ∨ e.data.cls = .junior := Iff.rfl
  unfold decidePassage
  rw [← isLastCall_eq_lastCallNow]
  simp only [crossingBusy_eq, isAtSea_iff, wrongDirection_iff, isGuestJunior_iff, hclass]
  cases s.muster.state <;> cases d <;> simp <;> rfl

theorem decideUntracked_eq (s : State) (gate : Station) (d : Direction) :
    decideUntracked s gate d =
      if s.engine.profile.countMode = .strict then (s, .unknown)
      else if s.passage.port = .atSea then (s, .notInPort)
      else if (s.passage.passages.any fun q => q.gate == gate) then (s, .busy)
      else if s.muster.state ≠ .off ∧ d = .outbound then (s, .muster)
      else if lastCallNow s = true ∧ d = .outbound then (s, .lastCall)
      else (passageOpened s gate none d, .granted) := by
  unfold decideUntracked
  simp only [← isLastCall_eq_lastCallNow, passageAt?_isSome, isAtSea_iff]
  rfl

/-! ## Passage Reports (R106, R110, R112, R115) -/

theorem nextStamp_eq_stampAfter (n : Nat) : nextStamp n = stampAfter n := by
  unfold nextStamp stampAfter Config.maxWord32
  split <;> omega

theorem commitPresence_eq (s : State) (e : CardEntry) (p : Presence) :
    s.commitPresence e p = withPresence s e p (stampAfter e.stamp) := by
  rw [State.commitPresence, setPresence_eq_withPresence, nextStamp_eq_stampAfter]

theorem min_succ_eq_raised (n : Nat) : min (n + 1) Config.maxWord16 = raised n := by
  unfold raised Config.maxWord16
  split <;> omega

theorem commitPassage_eq_committed (s : State) (q : Passage) : s.commitPassage q = committed s q := by
  obtain ⟨gate, card, d, left⟩ := q
  have hcard : ∀ n, lookup CardEntry.key n (s.closePassage gate).cards = (passageRemoved s gate).card? n := fun _ => rfl
  unfold State.commitPassage committed State.countUntracked
  simp only [commitPresence_eq, min_succ_eq_raised, hcard]
  cases card with
  | none => cases d <;> rfl
  | some n =>
    dsimp only
    cases (passageRemoved s gate).card? n <;> cases d <;> rfl

/-- A report outside its list is refused (R110). -/
theorem decideReport_of_bad {outcome : Nat} (h : readOutcome outcome = none) (s : State) (gate : Station) :
    decideReport s gate outcome = (s, .parameter) := by
  rw [decideReport, h]

theorem decideReport_late {s : State} {gate : Station} {outcome : Nat} {o : PassageOutcome}
    (ho : readOutcome outcome = some o) (hnone : s.passageAt? gate = none) :
    decideReport s gate outcome =
      (withEvent s { kind := .latePassage, station := some gate, detail := some (.outcome o) }, .late) := by
  rw [decideReport, ho, hnone]
  rfl

theorem decideReport_of_pending {s : State} {gate : Station} {q : Passage} (hq : s.passageAt? gate = some q) :
    decideReport s gate 1 = (committed s q, .granted) ∧
    decideReport s gate 2 = (passageRemoved s gate, .granted) := by
  simp only [decideReport, readOutcome, hq, commitPassage_eq_committed]
  exact ⟨trivial, rfl⟩

/-- PASSAGE_CONFIRM_TIMEOUT on a part that has main power (R111). -/
theorem exec_passageConfirmTimeout {s : State} (hon : s.power.mainOn = true) (gate : Station) :
    exec (.passageConfirmTimeout gate) s = .next (match s.passageAt? gate with
      | some q => if q.left = 0 then passageAbandoned s gate .abandonedTimeout else s
      | none => s) := by
  simp only [← abandonPassage_eq_passageAbandoned]
  exact congrArg Host.Outcome.next (whenOn_of_on hon _)

section jobOfGate

variable {p : Presentation} {d : Direction} (s : State) (e : CardEntry)

theorem decideJob_passage (hp : p.part = .passage d) : decideJob s p e = decided (decidePassage s p.station e d) := by
  rw [decideJob, hp]
  rfl

theorem decideGrant_passage (hp : p.part = .passage d) : decideGrant s p = decided (decideUntracked s p.station d) := by
  rw [decideGrant, hp]
  rfl

end jobOfGate

/-- Settles O56: the decisions test by test, the reports and the timeout by the passage pending at the gate. -/
theorem gatesDecideAndCommit : Obligations.GatesDecideAndCommit := by
  refine ⟨fun s p e d hp => ⟨?_, ?_⟩, fun s gate outcome => ⟨fun h1 h2 => ?_, fun o ho hnone => decideReport_late ho hnone,
    fun q hq => decideReport_of_pending hq⟩, fun s gate hon => ⟨fun q hq hleft => ?_, fun hwait => ?_⟩⟩
  · rw [decideJob_passage s e hp, decidePassage_eq]
    simp only [apply_ite decided]
    rfl
  · rw [decideGrant_passage s hp, decideUntracked_eq]
    simp only [apply_ite decided]
    rfl
  · refine decideReport_of_bad ?_ s gate
    unfold readOutcome
    split <;> trivial
  · rw [exec_passageConfirmTimeout hon, hq]
    exact congrArg Host.Outcome.next (if_pos hleft)
  · rw [exec_passageConfirmTimeout hon]
    cases hq : s.passageAt? gate with
    | none => rfl
    | some q => exact congrArg Host.Outcome.next (if_neg (hwait q hq))

/-! ## Muster points (R133-R136) -/

theorem markMustered_eq_mustered (s : State) (point : Station) (e : CardEntry) (m : Nat) :
    s.markMustered point e m = mustered s point e m := by
  obtain ⟨data, presence, stamp, mark⟩ := e
  cases mark <;> rfl

/-- The claim of a grant, and the card as it leaves it (R118, R134). -/
theorem foundAboard_eq_claimedAboard (s : State) (point : Station) (e : CardEntry) :
    (if e.presence = .ashore then
        (s.foundAboard e).report { kind := .foundAboard, station := some point, card := some e.data.number }
      else s.foundAboard e) = claimedAboard s point e := by
  unfold State.foundAboard claimedAboard
  rw [commitPresence_eq]
  cases e.presence <;> rfl

theorem card?_claimedAboard {s : State} {e : CardEntry} (he : s.card? e.data.number = some e) (point : Station) :
    (claimedAboard s point e).card? e.data.number =
      some (if e.presence = .aboard then e else { e with presence := .aboard, stamp := stampAfter e.stamp }) := by
  have hput : (withPresence s e .aboard (stampAfter e.stamp)).card? e.data.number =
      some { e with presence := .aboard, stamp := stampAfter e.stamp } :=
    lookup_put_self CardEntry.key { e with presence := .aboard, stamp := stampAfter e.stamp } s.cards
  unfold claimedAboard
  cases hpresence : e.presence with
  | aboard => rw [he]; rfl
  | ashore => exact hput
  | unknown => exact hput

/-- A muster point that grants a card not yet marked there (R134, R135). -/
theorem decideMuster_of_marking {s : State} {e : CardEntry} {m : Nat} (hstate : s.muster.state ≠ .off)
    (hmark : e.mark ≠ .mustered m) (he : s.card? e.data.number = some e) (point : Station) :
    decideMuster s point e m = (mustered (claimedAboard s point e) point
      (if e.presence = .aboard then e else { e with presence := .aboard, stamp := stampAfter e.stamp }) m, .granted) := by
  have hfound : lookup CardEntry.key e.data.number (claimedAboard s point e).cards = _ := card?_claimedAboard he point
  unfold decideMuster
  rw [if_neg hstate, if_neg hmark]
  dsimp only
  rw [foundAboard_eq_claimedAboard, hfound, ← markMustered_eq_mustered]

section jobOfMuster

variable {p : Presentation} {m : Nat} (s : State) (e : CardEntry)

theorem decideJob_muster (hp : p.part = .muster m) : decideJob s p e = decided (decideMuster s p.station e m) := by
  rw [decideJob, hp]
  rfl

theorem decideGrant_muster (hp : p.part = .muster m) : decideGrant s p = decided (decideUnlisted s m) := by
  rw [decideGrant, hp]
  rfl

end jobOfMuster

/-- Settles O57, by the muster state and the card's mark. -/
theorem musterPointsMarkTheCard : Obligations.MusterPointsMarkTheCard := by
  intro s p m hp
  refine ⟨fun hoff => ⟨?_, fun e => ?_⟩, fun hon => ⟨?_, fun e hmark => ?_, fun e he hmark => ?_⟩⟩
  · rw [decideGrant_muster s hp, decideUnlisted, if_pos hoff]
    rfl
  · rw [decideJob_muster s e hp, decideMuster, if_pos hoff]
    rfl
  · rw [decideGrant_muster s hp, decideUnlisted, if_neg hon]
    rfl
  · rw [decideJob_muster s e hp, decideMuster, if_neg hon, if_pos hmark]
    rfl
  · rw [decideJob_muster s e hp, decideMuster_of_marking hon hmark he]
    rfl

end Sys2Proof.Proofs

/-! PROOF. Timers (R85, R103, R145, R168, R192) and Answers (R147-R151). -/

namespace Sys2Proof.Proofs

open Sys2Proof.Machine Sys2Proof.Claims

/-! ## The timers of the Referral Unit, the session and the clock -/

theorem referral?_eq_none {s : State} {tag : Nat}
    (h : tag = 0 ∨ s.referral.list.find? (fun x => x.tag == tag) = none) : s.referral? tag = none := by
  unfold State.referral?
  rcases h with rfl | h
  · rfl
  · rw [h, ite_self]

theorem referral?_eq_some {s : State} {tag : Nat} {r : Referral} (htag : tag ≠ 0)
    (h : s.referral.list.find? (fun x => x.tag == tag) = some r) : s.referral? tag = some r :=
  (if_neg htag).trans h

/-- A session that a Data frame does not hold is abandoned when its gap has run out (R168). -/
theorem abandonedSession_eq {g : CommandEngine} {x : Session} (hx : g.session = some x) (hfree : ∀ f, g.state ≠ .loading f) :
    g.abandonedSession = if x.gap = 0 then some x else none := by
  have hfilter : g.abandonedSession = g.session.filter fun x => x.gap == 0 := by
    unfold CommandEngine.abandonedSession
    split
    case h_1 f hf => exact absurd hf (hfree f)
    case h_2 => rfl
  rw [hfilter, hx]
  by_cases hgap : x.gap = 0 <;> simp [hgap]

theorem abandonedSession_eq_none {g : CommandEngine} (h : g.session = none ∨ ∃ f, g.state = .loading f) :
    g.abandonedSession = none := by
  unfold CommandEngine.abandonedSession
  split
  case h_1 => rfl
  case h_2 hfree =>
    rcases h with h | ⟨f, hf⟩
    · rw [h]
      rfl
    · exact absurd hf (hfree f)

section timerRows

variable {s : State} (hon : s.power.mainOn = true)
include hon

/-- REFERRAL_TIMEOUT on a part that has main power. -/
theorem exec_referralTimeout (tag : Nat) : exec (.referralTimeout tag) s = .next (match s.referral? tag with
    | some r => if r.left = 0 then (referralEnded s r.tag).fallback r.presentation r.number .timeout else s
    | none => s) :=
  congrArg Host.Outcome.next (whenOn_of_on hon _)

/-- LOAD_GAP_EXPIRY on a part that has main power. -/
theorem exec_loadGapExpiry : exec .loadGapExpiry s = .next (match s.engine.abandonedSession with
    | some x => withEvent { s with engine := { s.engine with session := none } }
        { kind := .loadAbandoned, detail := some (.applied x.applied) }
    | none => s) :=
  congrArg Host.Outcome.next (whenOn_of_on hon _)

/-- DAY_BOUNDARY on a part that has main power. -/
theorem exec_dayBoundary : exec .dayBoundary s = .next (
    if s.engine.voyage.boundaryReached = true then
      rolledOver { s with engine := { s.engine with voyage := s.engine.voyage.moveBoundary } }
    else s) :=
  congrArg Host.Outcome.next (whenOn_of_on hon _)

/-- ALL_ABOARD_DUE on a part that has main power. -/
theorem exec_allAboardDue : exec .allAboardDue s = .next (if s.allAboardReached = true then s.enterLastCall else s) :=
  congrArg Host.Outcome.next (whenOn_of_on hon _)

theorem referralTimeout_cases (tag : Nat) :
    (∀ r, tag ≠ 0 → s.referral.list.find? (fun x => x.tag == tag) = some r →
      (r.left = 0 → exec (.referralTimeout tag) s =
        .next ((referralEnded s r.tag).fallback r.presentation r.number .timeout)) ∧
      (r.left ≠ 0 → exec (.referralTimeout tag) s = .next s)) ∧
    (tag = 0 ∨ s.referral.list.find? (fun x => x.tag == tag) = none →
      exec (.referralTimeout tag) s = .next s) := by
  rw [exec_referralTimeout hon]
  refine ⟨fun r htag hr => ?_, fun hnone => by rw [referral?_eq_none hnone]⟩
  rw [referral?_eq_some htag hr]
  exact ⟨fun hleft => congrArg Host.Outcome.next (if_pos hleft), fun hleft => congrArg Host.Outcome.next (if_neg hleft)⟩

theorem loadGapExpiry_cases :
    (∀ x, s.engine.session = some x → (∀ f, s.engine.state ≠ .loading f) →
      (x.gap = 0 → exec .loadGapExpiry s = .next (withEvent { s with engine := { s.engine with session := none } }
        { kind := .loadAbandoned, detail := some (.applied x.applied) })) ∧
      (x.gap ≠ 0 → exec .loadGapExpiry s = .next s)) ∧
    (s.engine.session = none ∨ (∃ f, s.engine.state = .loading f) → exec .loadGapExpiry s = .next s) := by
  rw [exec_loadGapExpiry hon]
  refine ⟨fun x hx hfree => ?_, fun h => by rw [abandonedSession_eq_none h]⟩
  rw [abandonedSession_eq hx hfree]
  exact ⟨fun hgap => by rw [if_pos hgap], fun hgap => by rw [if_neg hgap]⟩

theorem dayBoundary_cases :
    (∀ t b, s.engine.voyage.time = some t → s.engine.voyage.boundary = some b →
      (timeKey b ≤ timeKey t → exec .dayBoundary s = .next (rolledOver { s with engine := { s.engine with
        voyage := { s.engine.voyage with boundary := some (nextDay b) } } })) ∧
      (timeKey t < timeKey b → exec .dayBoundary s = .next s)) ∧
    (s.engine.voyage.time = none ∨ s.engine.voyage.boundary = none → exec .dayBoundary s = .next s) := by
  rw [exec_dayBoundary hon]
  refine ⟨fun t b ht hb => ⟨fun hreached => ?_, fun hbefore => ?_⟩, fun hnone => ?_⟩
  · rw [if_pos ((boundaryReached_iff _).2 ⟨t, b, ht, hb, hreached⟩), VoyageClock.moveBoundary, hb]
    rfl
  · rw [if_neg fun h => ?_]
    obtain ⟨t', b', ht', hb', hle⟩ := (boundaryReached_iff _).1 h
    obtain rfl : t = t' := Option.some_inj.1 (ht.symm.trans ht')
    obtain rfl : b = b' := Option.some_inj.1 (hb.symm.trans hb')
    exact Nat.not_le.2 hbefore hle
  · rw [if_neg fun h => ?_]
    obtain ⟨t, b, ht, hb, -⟩ := (boundaryReached_iff _).1 h
    simp [ht, hb] at hnone

theorem allAboardDue_cases :
    (∀ t a, s.engine.voyage.time = some t → s.passage.port = .inPort a →
      (timeKey a ≤ timeKey t → exec .allAboardDue s = .next (inLastCall s a)) ∧
      (timeKey t < timeKey a → exec .allAboardDue s = .next s)) ∧
    (s.engine.voyage.time = none ∨ (∀ a, s.passage.port ≠ .inPort a) → exec .allAboardDue s = .next s) := by
  rw [exec_allAboardDue hon]
  refine ⟨fun t a ht ha => ⟨fun hreached => ?_, fun hbefore => ?_⟩, fun hnone => ?_⟩
  · rw [if_pos ((allAboardReached_iff s).2 ⟨t, a, ht, ha, hreached⟩), enterLastCall_eq_inLastCall ha]
  · rw [if_neg fun h => ?_]
    obtain ⟨t', a', ht', ha', hle⟩ := (allAboardReached_iff s).1 h
    obtain rfl : t = t' := Option.some_inj.1 (ht.symm.trans ht')
    obtain rfl : a = a' := PortState.inPort.inj (ha.symm.trans ha')
    exact Nat.not_le.2 hbefore hle
  · rw [if_neg fun h => ?_]
    obtain ⟨t, a, ht, ha, -⟩ := (allAboardReached_iff s).1 h
    rcases hnone with hunset | hport
    · exact Option.some_ne_none t (ht.symm.trans hunset)
    · exact hport a ha

end timerRows

/-- Settles O59, timer by timer. -/
theorem timersActWhenDue : Obligations.TimersActWhenDue := by
  intro s hon
  obtain ⟨hgap, hidle⟩ := loadGapExpiry_cases hon
  obtain ⟨hboundary, hunset⟩ := dayBoundary_cases hon
  exact ⟨referralTimeout_cases hon, hgap, hidle, hboundary, hunset, allAboardDue_cases hon⟩

end Sys2Proof.Proofs

/-! PROOF. Answers (R147-R151). -/

namespace Sys2Proof.Proofs

open Sys2Proof.Machine Sys2Proof.Claims

/-! ## The trunk stays Up -/

/-- The trunk is Up. -/
def trunkIsUp (s : State) : Prop := s.trunk.up = true

/-- The job units and the tables' owners leave the trunk. -/
theorem jobClosed_trunkIsUp : JobClosed trunkIsUp := {}

theorem trunkIsUp_takeVerdict {s : State} (st : Station) (number : Nat) (crossing : Bool) (v : Verdict)
    (h : trunkIsUp s) : trunkIsUp (s.takeVerdict st number crossing v) := by
  have hdrop : trunkIsUp (s.dropVerdict st crossing v) := by
    unfold State.dropVerdict
    split
    · exact jobClosed_trunkIsUp.abandonPassage _ _ h
    · exact h
  unfold State.takeVerdict
  split
  · exact hdrop
  · split
    · exact hdrop
    · split
      · exact h
      · exact hdrop

theorem trunkIsUp_giveVerdict {s : State} (p : Presentation) (number : Nat) (v : Verdict) (h : trunkIsUp s) :
    trunkIsUp (s.giveVerdict p number v) := by
  have hrepeat : trunkIsUp (s.writeRepeat p.station p.card) := by
    unfold State.writeRepeat
    split
    · exact h
    · split <;> exact h
  exact trunkIsUp_takeVerdict _ _ _ _ (jobClosed_trunkIsUp.recordGesture p v.reason hrepeat)

theorem trunkIsUp_redecide {s : State} (r : Referral) (v : AnswerVerdict) (h : trunkIsUp s) :
    trunkIsUp (s.redecide r v) := by
  unfold State.redecide
  dsimp only
  split
  · exact trunkIsUp_giveVerdict _ _ _ h
  · rename_i e he
    split
    · exact trunkIsUp_giveVerdict _ _ _ (jobClosed_trunkIsUp.refuseBy _ _ h)
    · exact trunkIsUp_giveVerdict _ _ _ h
    · split
      · exact trunkIsUp_giveVerdict _ _ _ h
      · exact trunkIsUp_giveVerdict _ _ _ (jobClosed_trunkIsUp.decideJob _ _ (State.card?_number he ▸ he) h)

theorem trunkIsUp_decideAnswered {s : State} (r : Referral) (v : AnswerVerdict) (h : trunkIsUp s) :
    trunkIsUp (s.decideAnswered r v) := by
  unfold State.decideAnswered
  split
  · exact trunkIsUp_giveVerdict _ _ _ h
  · exact trunkIsUp_giveVerdict _ _ _ (jobClosed_trunkIsUp.decideGrant _ h)

theorem trunkIsUp_takeAnswer {s : State} (tag : Nat) (v : AnswerVerdict) (entry : Option CardOffer) (h : trunkIsUp s) :
    trunkIsUp (takeAnswer s tag v entry).1 := by
  unfold takeAnswer
  split
  · rename_i r hr
    have hinstalled : trunkIsUp (installCard (s.dropReferral tag) (some r.presentation.card) entry).1 :=
      jobClosed_trunkIsUp.installCard _ _ h
    dsimp only
    split
    · exact trunkIsUp_redecide r v hinstalled
    · exact trunkIsUp_decideAnswered r v hinstalled
  · exact jobClosed_trunkIsUp.installCard none entry h

/-- ANSWER_FRAME on a part that receives: the Status of what the Referral Unit makes of it. -/
theorem exec_answerFrame {s : State} (hs : receives s) (tag : Nat) (v : AnswerVerdict) (entry : Option CardOffer) :
    exec (.answerFrame tag v entry) s = .next (answeredReferral (takeAnswer (up s) tag v entry).1 tag
      (takeAnswer (up s) tag v entry).2.1 (takeAnswer (up s) tag v entry).2.2) :=
  congrArg Host.Outcome.next ((receive_of_receives hs _).trans
    (answer_of_up (trunkIsUp_takeAnswer tag v entry (trunk_up_up s)) ..))

/-! ## The entry offered for installation (R148) -/

theorem installCard_of_unread {o : CardOffer} (h : ∀ d, readCard o ≠ some d) (s : State) (presented : Option Nat) :
    installCard s presented (some o) = (s, some .parameter) := by
  rw [installCard, Option.eq_none_iff_forall_ne_some.2 h]

theorem installCard_of_other {o : CardOffer} {d : CardData} (hd : readCard o = some d) {presented : Option Nat}
    (h : ∃ n, presented = some n ∧ n ≠ d.number) (s : State) :
    installCard s presented (some o) = (s, some .parameter) := by
  obtain ⟨n, rfl, hne⟩ := h
  rw [installCard, hd]
  exact if_pos (bne_iff_ne.2 hne)

theorem installCard_of_presented {o : CardOffer} {d : CardData} (hd : readCard o = some d) {presented : Option Nat}
    (h : ∀ n, presented = some n → n = d.number) (s : State) :
    installCard s presented (some o) =
      ((s.applyCard d o.presence).1, some (installOf (s.applyCard d o.presence).2)) := by
  rw [installCard, hd]
  refine if_neg fun hany => ?_
  obtain ⟨n, hn, hne⟩ := (Option.any_eq_true ..).1 hany
  exact bne_iff_ne.1 hne (h n hn)

/-- The offer of an Answer's entry comes to the install result of R148. -/
theorem exists_installed (s : State) (presented : Option Nat) (o : CardOffer) :
    ∃ i : State × InstallResult, installed s presented o i ∧ installCard s presented (some o) = (i.1, some i.2) := by
  cases hd : readCard o with
  | none =>
    have hunread : ∀ d, readCard o ≠ some d := fun d => hd ▸ (Option.some_ne_none d).symm
    exact ⟨(s, .parameter), ⟨fun _ => rfl, fun d h => absurd h (hunread d)⟩, installCard_of_unread hunread s presented⟩
  | some d =>
    by_cases hother : ∃ n, presented = some n ∧ n ≠ d.number
    · refine ⟨(s, .parameter), ⟨fun h => absurd hd (h d), fun d' hd' => ?_⟩, installCard_of_other hd hother s⟩
      obtain rfl : d = d' := Option.some_inj.1 (hd.symm.trans hd')
      refine ⟨fun _ => rfl, fun hsame => ?_⟩
      obtain ⟨n, hn, hne⟩ := hother
      exact absurd (hsame n hn) hne
    · have hsame : ∀ n, presented = some n → n = d.number := fun n hn => by_contra fun hne => hother ⟨n, hn, hne⟩
      refine ⟨((s.applyCard d o.presence).1, installOf (s.applyCard d o.presence).2),
        ⟨fun h => absurd hd (h d), fun d' hd' => ?_⟩, installCard_of_presented hd hsame s⟩
      obtain rfl : d = d' := Option.some_inj.1 (hd.symm.trans hd')
      refine ⟨fun h => absurd h hother, fun _ => ⟨fun e he => ?_, fun he => ?_⟩⟩
      · obtain ⟨hprotect, huse, hok⟩ := applyCard_of_card he o.presence
        refine ⟨fun h => by rw [hprotect h]; rfl, fun h h' h'' => by rw [huse h h' h'']; rfl,
          fun h h' => by rw [hok h h']; rfl⟩
      · obtain ⟨hbad, hread⟩ := applyCard_of_no_card he o.presence
        refine ⟨fun h => by rw [hbad h]; rfl, fun p hp => ?_⟩
        obtain ⟨hprotect, hfull, hok⟩ := hread p hp
        exact ⟨fun h => by rw [hprotect h]; rfl, fun h h' => by rw [hfull h h']; rfl,
          fun h h' => by rw [hok h h']; rfl⟩

/-! ## The decision of an Answer (R149, R150) -/

theorem decideAnswered_eq_decidedWithout (s : State) (r : Referral) (v : AnswerVerdict) :
    s.decideAnswered r v = decidedWithout s r v := by
  cases v <;> rfl

theorem decidedAnew_redecide (s : State) (r : Referral) (v : AnswerVerdict) : decidedAnew s r v (s.redecide r v) := by
  intro e o he ho
  have hcheck := checkEntry_of_checked ho
  unfold State.redecide
  dsimp only
  rw [he]
  dsimp only
  rw [hcheck]
  cases o with
  | passed => cases v <;> rfl
  | refused reason event => exact giveVerdict_refuseBy ..
  | referred cause => rfl

theorem takeAnswer_of_referral {s : State} {tag : Nat} {r : Referral} (hr : s.referral? tag = some r)
    (v : AnswerVerdict) (entry : Option CardOffer) {u : State} {result : Option InstallResult}
    (hinstall : installCard (referralEnded s tag) (some r.presentation.card) entry = (u, result)) :
    takeAnswer s tag v entry =
      (if result = some .installed then u.redecide r v else decidedWithout u r v, .ok, result) := by
  rw [takeAnswer, hr, ← decideAnswered_eq_decidedWithout]
  dsimp only
  rw [show installCard (s.dropReferral tag) (some r.presentation.card) entry = (u, result) from hinstall]

/-- The state in which a late Answer's entry is offered (R151). -/
def lateState (s : State) (tag : Nat) (card : Option Nat) : State :=
  withEvent s { kind := .lateAnswer, card := card, detail := some (.referralTag tag) }

theorem takeAnswer_late {s : State} {tag : Nat} (hnone : s.referral? tag = none) (v : AnswerVerdict)
    (entry : Option CardOffer) {u : State} {result : Option InstallResult}
    (hinstall : installCard (lateState s tag (entry.map CardOffer.number)) none entry = (u, result)) :
    takeAnswer s tag v entry = (u, .late, result) := by
  have hlate : takeAnswer s tag v entry =
      ((installCard (lateState s tag (entry.map CardOffer.number)) none entry).1, .late,
        (installCard (lateState s tag (entry.map CardOffer.number)) none entry).2) := by
    rw [takeAnswer, hnone]
    rfl
  rw [hlate, hinstall]

/-- Settles O58, by the referral that the tag names and what comes of the entry. -/
theorem answersEndTheirReferral : Obligations.AnswersEndTheirReferral := by
  intro s tag v hs t
  refine ⟨fun r htag hr => ?_, fun hnone => ?_⟩
  · have hr := referral?_eq_some htag hr
    intro u
    refine ⟨?_, fun o => ?_⟩
    · rw [exec_answerFrame hs, takeAnswer_of_referral hr v none rfl]
      rfl
    · obtain ⟨i, hi, hinstall⟩ := exists_installed u (some r.presentation.card) o
      rw [exec_answerFrame hs, takeAnswer_of_referral hr v (some o) hinstall]
      refine ⟨i, hi, fun hrefused => ?_, fun hin => ⟨i.1.redecide r v, decidedAnew_redecide i.1 r v, ?_⟩⟩
      · rw [if_neg fun h => hrefused (Option.some_inj.1 h)]
      · rw [if_pos (congrArg some hin)]
  · have hnone := referral?_eq_none hnone
    intro late
    refine ⟨?_, fun o => ?_⟩
    · rw [exec_answerFrame hs, takeAnswer_late hnone v none rfl]
      rfl
    · obtain ⟨i, hi, hinstall⟩ := exists_installed (late (some o.number)) none o
      refine ⟨i, hi, ?_⟩
      rw [exec_answerFrame hs, takeAnswer_late hnone v (some o) hinstall]

end Sys2Proof.Proofs

/-! PROOF. The voyage clock and its boundaries (R192). A date and time is ordered first by its date, then by the second of
its day; the next day and the next second are the least ones above. -/

namespace Sys2Proof.Proofs

open Sys2Proof.Machine Sys2Proof.Claims

/-! ## The order of dates and times -/

/-- The number of the date in `timeKey`. -/
def dateKey (t : DateTime) : Nat := (t.year * 13 + t.month) * 32 + t.day

/-- The second of the day. -/
def secondOfDay (t : DateTime) : Nat := (t.hour * 60 + t.minute) * 60 + t.second

theorem timeKey_eq (t : DateTime) : timeKey t = dateKey t * 86400 + secondOfDay t := by
  unfold timeKey dateKey secondOfDay
  omega

/-- A date and time of the calendar, of any year. -/
def ofCalendar (t : DateTime) : Prop :=
  1 ≤ t.month ∧ t.month ≤ 12 ∧ 1 ≤ t.day ∧ t.day ≤ daysInMonth t.year t.month ∧
  t.hour ≤ 23 ∧ t.minute ≤ 59 ∧ t.second ≤ 59

theorem validTime_iff (t : DateTime) : validTime t = true ↔ 2000 ≤ t.year ∧ t.year ≤ 2099 ∧ ofCalendar t :=
  decide_eq_true_iff

theorem ofCalendar_of_validTime {t : DateTime} (h : validTime t = true) : ofCalendar t := ((validTime_iff t).1 h).2.2

theorem daysInMonth_range (year month : Nat) : 28 ≤ daysInMonth year month ∧ daysInMonth year month ≤ 31 := by
  unfold daysInMonth
  split_ifs <;> omega

theorem secondOfDay_lt {t : DateTime} (h : ofCalendar t) : secondOfDay t < 86400 := by
  obtain ⟨-, -, -, -, hhour, hminute, hsecond⟩ := h
  unfold secondOfDay
  omega

/-- Dates and times of the calendar that stand at one place in the order are the same. -/
theorem eq_of_timeKey_eq {t u : DateTime} (ht : ofCalendar t) (hu : ofCalendar u) (h : timeKey t = timeKey u) : t = u := by
  have htdays := daysInMonth_range t.year t.month
  have hudays := daysInMonth_range u.year u.month
  obtain ⟨ty, tm, td, th, tn, ts⟩ := t
  obtain ⟨uy, um, ud, uh, un, us⟩ := u
  simp only [ofCalendar, timeKey, DateTime.mk.injEq] at *
  omega

/-! ## The next day -/

theorem nextDay_time (t : DateTime) :
    (nextDay t).hour = t.hour ∧ (nextDay t).minute = t.minute ∧ (nextDay t).second = t.second := by
  unfold nextDay
  split_ifs <;> exact ⟨rfl, rfl, rfl⟩

theorem secondOfDay_nextDay (t : DateTime) : secondOfDay (nextDay t) = secondOfDay t := by
  obtain ⟨hhour, hminute, hsecond⟩ := nextDay_time t
  rw [secondOfDay, hhour, hminute, hsecond, secondOfDay]

theorem ofCalendar_nextDay {t : DateTime} (h : ofCalendar t) : ofCalendar (nextDay t) := by
  obtain ⟨hmonth, hmonth', hday, hday', htime⟩ := h
  unfold nextDay
  split_ifs with hin hyear
  · exact ⟨hmonth, hmonth', Nat.le_add_left .., hin, htime⟩
  · exact ⟨Nat.le_add_left .., hyear, le_rfl, Nat.le_trans (Nat.le_add_left 1 27) (daysInMonth_range ..).1, htime⟩
  · exact ⟨le_rfl, Nat.le_add_left 1 11, le_rfl, Nat.le_trans (Nat.le_add_left 1 27) (daysInMonth_range ..).1, htime⟩

theorem dateKey_lt_nextDay {t : DateTime} (h : ofCalendar t) : dateKey t < dateKey (nextDay t) := by
  obtain ⟨hmonth, hmonth', hday, hday', -⟩ := h
  have hdays := daysInMonth_range t.year t.month
  unfold nextDay
  split_ifs <;> simp only [dateKey] <;> omega

/-- No date lies between a date and the next day. -/
theorem dateKey_nextDay_le {t u : DateTime} (ht : ofCalendar t) (hu : ofCalendar u) (h : dateKey t < dateKey u) :
    dateKey (nextDay t) ≤ dateKey u := by
  obtain ⟨hmonth, hmonth', hday, hday', -⟩ := ht
  obtain ⟨humonth, humonth', huday, huday', -⟩ := hu
  have hdays := daysInMonth_range t.year t.month
  have hudays := daysInMonth_range u.year u.month
  have hsame : t.year = u.year → t.month = u.month → u.day ≤ daysInMonth t.year t.month := fun hy hm => hy ▸ hm ▸ huday'
  unfold nextDay
  split_ifs <;> simp only [dateKey] at h ⊢ <;> omega

/-! ## The next second -/

/-- The second after a time is in the same day, or the first of the next day. -/
theorem nextSecond_cases {t : DateTime} (ht : ofCalendar t) (hlast : t ≠ lastTime) :
    (dateKey (nextSecond t) = dateKey t ∧ timeKey (nextSecond t) = timeKey t + 1 ∧ (nextSecond t).year = t.year ∧
      ofCalendar (nextSecond t)) ∨
    (secondOfDay t = 86399 ∧ nextSecond t = nextDay { t with hour := 0, minute := 0, second := 0 }) := by
  obtain ⟨hmonth, hmonth', hday, hday', hhour, hminute, hsecond⟩ := ht
  unfold nextSecond
  rw [if_neg hlast]
  split_ifs with hs hm hh
  · refine .inl ⟨rfl, ?_, rfl, hmonth, hmonth', hday, hday', hhour, hminute, hs⟩
    simp only [timeKey]
    omega
  · refine .inl ⟨rfl, ?_, rfl, hmonth, hmonth', hday, hday', hhour, hm, Nat.zero_le _⟩
    simp only [timeKey]
    omega
  · refine .inl ⟨rfl, ?_, rfl, hmonth, hmonth', hday, hday', hh, Nat.zero_le _, Nat.zero_le _⟩
    simp only [timeKey]
    omega
  · refine .inr ⟨?_, rfl⟩
    unfold secondOfDay
    omega

/-- The day's first second. -/
theorem ofCalendar_midnight {t : DateTime} (ht : ofCalendar t) (hour : Nat) (hhour : hour ≤ 23) :
    ofCalendar { t with hour := hour, minute := 0, second := 0 } := by
  obtain ⟨hmonth, hmonth', hday, hday', -⟩ := ht
  exact ⟨hmonth, hmonth', hday, hday', hhour, Nat.zero_le _, Nat.zero_le _⟩

theorem ofCalendar_nextSecond {t : DateTime} (ht : ofCalendar t) (hlast : t ≠ lastTime) : ofCalendar (nextSecond t) := by
  rcases nextSecond_cases ht hlast with ⟨-, -, -, h⟩ | ⟨-, h⟩
  · exact h
  · rw [h]
    exact ofCalendar_nextDay (ofCalendar_midnight ht 0 (Nat.zero_le _))

theorem timeKey_lt_nextSecond {t : DateTime} (ht : ofCalendar t) (hlast : t ≠ lastTime) :
    timeKey t < timeKey (nextSecond t) := by
  rcases nextSecond_cases ht hlast with ⟨-, h, -⟩ | ⟨-, h⟩
  · omega
  · have hsecond := secondOfDay_lt ht
    have hdate : dateKey t < dateKey (nextSecond t) :=
      h ▸ dateKey_lt_nextDay (ofCalendar_midnight ht 0 (Nat.zero_le _))
    rw [timeKey_eq, timeKey_eq]
    omega

/-- No time lies between a time and the second after it. -/
theorem timeKey_nextSecond_le {t u : DateTime} (ht : ofCalendar t) (hlast : t ≠ lastTime) (hu : ofCalendar u)
    (h : timeKey t < timeKey u) : timeKey (nextSecond t) ≤ timeKey u := by
  rcases nextSecond_cases ht hlast with ⟨-, hnext, -⟩ | ⟨hend, hnext⟩
  · omega
  · have hsecond := secondOfDay_lt hu
    rw [timeKey_eq t, timeKey_eq u] at h
    have hmidnight := ofCalendar_midnight ht 0 (Nat.zero_le _)
    have hdate : dateKey (nextSecond t) ≤ dateKey u := hnext ▸ dateKey_nextDay_le hmidnight hu (by
      change dateKey t < dateKey u
      omega)
    have hzero : secondOfDay (nextSecond t) = 0 := by
      rw [hnext, secondOfDay_nextDay]
      rfl
    rw [timeKey_eq, timeKey_eq]
    omega

theorem ofCalendar_lastTime : ofCalendar lastTime := ofCalendar_of_validTime (by decide)

theorem timeKey_lt_lastTime {t : DateTime} (h : validTime t = true) (hlast : t ≠ lastTime) :
    timeKey t < timeKey lastTime := by
  obtain ⟨-, hhigh, hcal⟩ := (validTime_iff t).1 h
  refine Nat.lt_of_le_of_ne ?_ fun heq => hlast (eq_of_timeKey_eq hcal ofCalendar_lastTime heq)
  obtain ⟨-, hmonth, -, hday, hhour, hminute, hsecond⟩ := hcal
  have hdays := daysInMonth_range t.year t.month
  simp only [timeKey, lastTime]
  omega

/-- The clock stays in its range of years (R192). -/
theorem year_nextSecond_range {t : DateTime} (h : validTime t = true) (hlast : t ≠ lastTime) :
    2000 ≤ (nextSecond t).year ∧ (nextSecond t).year ≤ 2099 := by
  obtain ⟨hlow, -, hcal⟩ := (validTime_iff t).1 h
  have hgrows := timeKey_lt_nextSecond hcal hlast
  have hends := timeKey_nextSecond_le hcal hlast ofCalendar_lastTime (timeKey_lt_lastTime h hlast)
  obtain ⟨hmonth, hmonth', hday, hday', hhour, hminute, hsecond⟩ := ofCalendar_nextSecond hcal hlast
  have hdays := daysInMonth_range (nextSecond t).year (nextSecond t).month
  obtain ⟨htmonth, -⟩ := hcal
  simp only [timeKey, lastTime] at hgrows hends
  omega

theorem validTime_nextSecond {t : DateTime} (h : validTime t = true) (hlast : t ≠ lastTime) :
    validTime (nextSecond t) = true := by
  obtain ⟨hlow, hhigh⟩ := year_nextSecond_range h hlast
  exact (validTime_iff _).2 ⟨hlow, hhigh, ofCalendar_nextSecond (ofCalendar_of_validTime h) hlast⟩

/-! ## The next boundary -/

/-- The first instant of an hour above a place in the order. -/
def firstOfHour (hour key : Nat) (b : DateTime) : Prop :=
  ofCalendar b ∧ b.hour = hour ∧ b.minute = 0 ∧ b.second = 0 ∧ key < timeKey b ∧
  ∀ t, ofCalendar t → t.hour = hour → t.minute = 0 → t.second = 0 → key < timeKey t → timeKey b ≤ timeKey t

theorem firstOfHour_unique {hour key : Nat} {b c : DateTime} (hb : firstOfHour hour key b) (hc : firstOfHour hour key c) :
    b = c := by
  obtain ⟨hbcal, hbhour, hbminute, hbsecond, hbkey, hbleast⟩ := hb
  obtain ⟨hccal, hchour, hcminute, hcsecond, hckey, hcleast⟩ := hc
  exact eq_of_timeKey_eq hbcal hccal (Nat.le_antisymm (hbleast c hccal hchour hcminute hcsecond hckey)
    (hcleast b hbcal hbhour hbminute hbsecond hbkey))

/-- It stays the first until it is reached. -/
theorem firstOfHour_later {hour key key' : Nat} {b : DateTime} (hle : key ≤ key') (hlt : key' < timeKey b)
    (h : firstOfHour hour key b) : firstOfHour hour key' b := by
  obtain ⟨hcal, hhour, hminute, hsecond, -, hleast⟩ := h
  exact ⟨hcal, hhour, hminute, hsecond, hlt, fun t ht h1 h2 h3 h4 => hleast t ht h1 h2 h3 (Nat.lt_of_le_of_lt hle h4)⟩

theorem secondOfDay_of_hour {t : DateTime} {hour : Nat} (hhour : t.hour = hour) (hminute : t.minute = 0)
    (hsecond : t.second = 0) : secondOfDay t = hour * 3600 := by
  unfold secondOfDay
  omega

theorem boundaryAfter_firstOfHour {hour : Nat} (hhour : hour ≤ 23) {clock : DateTime} (hclock : ofCalendar clock) :
    firstOfHour hour (timeKey clock) (boundaryAfter hour clock) := by
  have hcal := ofCalendar_midnight hclock hour hhour
  have htoday : timeKey { clock with hour := hour, minute := 0, second := 0 } = dateKey clock * 86400 + hour * 3600 := by
    rw [timeKey_eq, secondOfDay_of_hour rfl rfl rfl]
    rfl
  have hsec := secondOfDay_lt hclock
  have hkey := timeKey_eq clock
  unfold boundaryAfter
  simp only [notLater, decide_eq_true_eq]
  split_ifs with hpast
  · have hnext : timeKey (nextDay { clock with hour := hour, minute := 0, second := 0 }) =
        dateKey (nextDay { clock with hour := hour, minute := 0, second := 0 }) * 86400 + hour * 3600 := by
      rw [timeKey_eq, secondOfDay_nextDay, secondOfDay_of_hour rfl rfl rfl]
    obtain ⟨hh, hm, hs⟩ := nextDay_time { clock with hour := hour, minute := 0, second := 0 }
    have hlater : dateKey clock < dateKey (nextDay { clock with hour := hour, minute := 0, second := 0 }) :=
      dateKey_lt_nextDay hcal
    refine ⟨ofCalendar_nextDay hcal, hh, hm, hs, by omega, fun t ht h1 h2 h3 hafter => ?_⟩
    rw [timeKey_eq t, secondOfDay_of_hour h1 h2 h3] at hafter ⊢
    have hdate := dateKey_nextDay_le hcal ht (show dateKey clock < dateKey t by omega)
    omega
  · refine ⟨hcal, rfl, rfl, rfl, Nat.lt_of_not_le hpast, fun t ht h1 h2 h3 hafter => ?_⟩
    rw [timeKey_eq t, secondOfDay_of_hour h1 h2 h3] at hafter ⊢
    omega

/-- At a boundary the next one is the same hour of the following day. -/
theorem boundaryAfter_self {hour : Nat} {b : DateTime} (hhour : b.hour = hour) (hminute : b.minute = 0)
    (hsecond : b.second = 0) : boundaryAfter hour b = nextDay b := by
  obtain ⟨year, month, day, h, minute, second⟩ := b
  subst hhour hminute hsecond
  exact if_pos (decide_eq_true le_rfl)

/-- The boundary stays until the clock reaches it, and the clock reaches it exactly. -/
theorem boundaryAfter_nextSecond {hour : Nat} (hhour : hour ≤ 23) {clock : DateTime} (hclock : ofCalendar clock)
    (hlast : clock ≠ lastTime) :
    (timeKey (nextSecond clock) < timeKey (boundaryAfter hour clock) →
      boundaryAfter hour (nextSecond clock) = boundaryAfter hour clock) ∧
    (timeKey (boundaryAfter hour clock) ≤ timeKey (nextSecond clock) →
      nextSecond clock = boundaryAfter hour clock ∧
      boundaryAfter hour (boundaryAfter hour clock) = nextDay (boundaryAfter hour clock)) := by
  have hnext := ofCalendar_nextSecond hclock hlast
  have hgrows := timeKey_lt_nextSecond hclock hlast
  have hfirst := boundaryAfter_firstOfHour hhour hclock
  refine ⟨fun hbefore => ?_, fun hreached => ?_⟩
  · exact firstOfHour_unique (boundaryAfter_firstOfHour hhour hnext)
      (firstOfHour_later (Nat.le_of_lt hgrows) hbefore hfirst)
  · obtain ⟨hcal, hh, hm, hs, hafter, -⟩ := hfirst
    have hleast := timeKey_nextSecond_le hclock hlast hcal hafter
    exact ⟨eq_of_timeKey_eq hnext hcal (Nat.le_antisymm hleast hreached), boundaryAfter_self hh hm hs⟩

/-! ## The running clock -/

theorem advance_of_unset {v : VoyageClock} (h : v.time = none) : v.advance = v := by
  rw [VoyageClock.advance, h]

theorem advance_of_set {v : VoyageClock} {t : DateTime} (h : v.time = some t) :
    v.advance = if v.millis < 999 then { v with millis := v.millis + 1 }
      else { v with time := some (nextSecond t), millis := 0 } := by
  rw [VoyageClock.advance, h]
  exact if_congr Nat.add_lt_add_iff_right rfl rfl

/-- Settles O28: the next second and the next boundary are the least ones above. -/
theorem voyageClockRunsAndFindsItsBoundary : Obligations.VoyageClockRunsAndFindsItsBoundary := by
  refine ⟨fun v h => advance_of_unset h, fun v t h => ⟨fun hlow => ?_, fun hfull => ?_⟩, if_pos rfl,
    fun t ht hlast => ?_, fun hour clock hhour hclock => ?_, fun hour clock hhour hclock hlast => ?_⟩
  · rw [advance_of_set h, if_pos hlow]
  · rw [advance_of_set h, if_neg (Nat.not_lt.2 hfull)]
  · have hcal := ofCalendar_of_validTime ht
    exact ⟨validTime_nextSecond ht hlast, timeKey_lt_nextSecond hcal hlast, fun u hu hafter =>
      timeKey_nextSecond_le hcal hlast (ofCalendar_of_validTime hu) hafter⟩
  · obtain ⟨-, hh, hm, hs, hafter, hleast⟩ := boundaryAfter_firstOfHour hhour (ofCalendar_of_validTime hclock)
    exact ⟨hh, hm, hs, hafter, fun t ht h1 h2 h3 h4 => hleast t (ofCalendar_of_validTime ht) h1 h2 h3 h4⟩
  · exact boundaryAfter_nextSecond hhour (ofCalendar_of_validTime hclock) hlast

end Sys2Proof.Proofs
